-- ==== Sys2Proof/Word.lean ====
section
/-! DEFINITION. Bytes, words, and the names of the operands an opcode byte can select (00_scope.md R8, R10;
30_encoding.md R93 to R97). -/

namespace Sys2Proof

/-- A byte: what one address names and what a general register holds (R6, R50). -/
abbrev Byte := BitVec 8

/-- A 16-bit value: an address, a register pair, PC or SP (R6). -/
abbrev Word := BitVec 16

/-- The seven 8-bit general registers (R21). -/
inductive Reg8 where
  | A | B | C | D | E | H | L
  deriving DecidableEq, Repr

/-- The register pairs, views of two 8-bit registers (R22). -/
inductive Pair where
  | BC | DE | HL
  deriving DecidableEq, Repr

/-- The 16-bit register operands of LD rr,d16, INC rr, DEC rr and ADD HL,rr (R94, table `rp`). -/
inductive Reg16 where
  | BC | DE | HL | SP
  deriving DecidableEq, Repr

/-- The condition codes of the conditional transfers (R95, R210). -/
inductive Cond where
  | NZ | Z | NC | C
  deriving DecidableEq, Repr

/-- The operand that a three-bit code selects (R93): a register, or the byte at the address in HL. -/
inductive Loc8 where
  | reg (r : Reg8)
  | indHL
  deriving DecidableEq, Repr

/-- The second operand of the eight arithmetic kinds (R120): a register, the byte at HL, or an immediate byte. -/
inductive Src8 where
  | reg (r : Reg8)
  | indHL
  | d8
  deriving DecidableEq, Repr

/-- The eight arithmetic kinds (R96). -/
inductive AluOp where
  | add | adc | sub | sbc | and | xor | or | cp
  deriving DecidableEq, Repr

/-- The four admitted prefixed rotates (R97): left or right, wrap or through carry. -/
inductive RotOp where
  | rlc | rrc | rl | rr
  deriving DecidableEq, Repr

end Sys2Proof
end

