-- ==== Sys2Proof/Syntax.lean ====
section
/-! DEFINITION. The instructions: one constructor per mnemonic of spec/opcode_table.json (30_encoding.md R101, R102), and
the UNKNOWN descriptor of either table (R103). A constructor is the spec's instruction descriptor (R99, R107), a
function of the opcode byte(s) alone: immediate bytes are read by execution, so no constructor carries one (log 9).
In the names, `ind` stands for the parentheses of the mnemonic: `ld_A_indHL` is LD A,(HL). -/

namespace Sys2Proof

inductive Instr where
  -- R257: the UNKNOWN descriptor of the base table, and of the extended table (second byte)
  | unknown (op : Byte) | unknownCb (op2 : Byte)
  -- R121: ADD A,x
  | add_A_B | add_A_C | add_A_D | add_A_E | add_A_H | add_A_L | add_A_indHL | add_A_A | add_A_d8
  -- R122: ADC A,x
  | adc_A_B | adc_A_C | adc_A_D | adc_A_E | adc_A_H | adc_A_L | adc_A_indHL | adc_A_A | adc_A_d8
  -- R123: SUB A,x
  | sub_A_B | sub_A_C | sub_A_D | sub_A_E | sub_A_H | sub_A_L | sub_A_indHL | sub_A_A | sub_A_d8
  -- R124: SBC A,x
  | sbc_A_B | sbc_A_C | sbc_A_D | sbc_A_E | sbc_A_H | sbc_A_L | sbc_A_indHL | sbc_A_A | sbc_A_d8
  -- R125: AND A,x
  | and_A_B | and_A_C | and_A_D | and_A_E | and_A_H | and_A_L | and_A_indHL | and_A_A | and_A_d8
  -- R126: XOR A,x
  | xor_A_B | xor_A_C | xor_A_D | xor_A_E | xor_A_H | xor_A_L | xor_A_indHL | xor_A_A | xor_A_d8
  -- R127: OR A,x
  | or_A_B | or_A_C | or_A_D | or_A_E | or_A_H | or_A_L | or_A_indHL | or_A_A | or_A_d8
  -- R128: CP A,x
  | cp_A_B | cp_A_C | cp_A_D | cp_A_E | cp_A_H | cp_A_L | cp_A_indHL | cp_A_A | cp_A_d8
  -- R140: INC r
  | inc_B | inc_C | inc_D | inc_E | inc_H | inc_L | inc_A
  -- R141: INC (HL)
  | inc_indHL
  -- R142: DEC r
  | dec_B | dec_C | dec_D | dec_E | dec_H | dec_L | dec_A
  -- R143: DEC (HL)
  | dec_indHL
  -- R144: INC rr
  | inc_BC | inc_DE | inc_HL | inc_SP
  -- R145: DEC rr
  | dec_BC | dec_DE | dec_HL | dec_SP
  -- R146: ADD HL,rr
  | add_HL_BC | add_HL_DE | add_HL_HL | add_HL_SP
  -- R161: LD r,r'
  | ld_B_B | ld_B_C | ld_B_D | ld_B_E | ld_B_H | ld_B_L | ld_B_A | ld_C_B | ld_C_C | ld_C_D | ld_C_E | ld_C_H
  | ld_C_L | ld_C_A | ld_D_B | ld_D_C | ld_D_D | ld_D_E | ld_D_H | ld_D_L | ld_D_A | ld_E_B | ld_E_C | ld_E_D
  | ld_E_E | ld_E_H | ld_E_L | ld_E_A | ld_H_B | ld_H_C | ld_H_D | ld_H_E | ld_H_H | ld_H_L | ld_H_A | ld_L_B
  | ld_L_C | ld_L_D | ld_L_E | ld_L_H | ld_L_L | ld_L_A | ld_A_B | ld_A_C | ld_A_D | ld_A_E | ld_A_H | ld_A_L
  | ld_A_A
  -- R162: LD r,d8
  | ld_B_d8 | ld_C_d8 | ld_D_d8 | ld_E_d8 | ld_H_d8 | ld_L_d8 | ld_A_d8
  -- R163: LD r,(HL)
  | ld_B_indHL | ld_C_indHL | ld_D_indHL | ld_E_indHL | ld_H_indHL | ld_L_indHL | ld_A_indHL
  -- R164: LD (HL),r
  | ld_indHL_B | ld_indHL_C | ld_indHL_D | ld_indHL_E | ld_indHL_H | ld_indHL_L | ld_indHL_A
  -- R165: LD (HL),d8
  | ld_indHL_d8
  -- R166: LD A,(BC)
  | ld_A_indBC
  -- R167: LD A,(DE)
  | ld_A_indDE
  -- R168: LD (BC),A
  | ld_indBC_A
  -- R169: LD (DE),A
  | ld_indDE_A
  -- R170: LD (HL+),A
  | ld_indHLinc_A
  -- R171: LD (HL-),A
  | ld_indHLdec_A
  -- R172: LD A,(HL+)
  | ld_A_indHLinc
  -- R173: LD A,(HL-)
  | ld_A_indHLdec
  -- R174: LDH (a8),A
  | ldh_inda8_A
  -- R175: LDH A,(a8)
  | ldh_A_inda8
  -- R176: LD (C),A
  | ld_indC_A
  -- R177: LD A,(C)
  | ld_A_indC
  -- R178: LD (a16),A
  | ld_inda16_A
  -- R179: LD A,(a16)
  | ld_A_inda16
  -- R190: LD BC,d16, LD DE,d16, LD HL,d16, LD SP,d16
  | ld_BC_d16 | ld_DE_d16 | ld_HL_d16 | ld_SP_d16
  -- R191: LD (a16),SP
  | ld_inda16_SP
  -- R192: LD SP,HL
  | ld_SP_HL
  -- R194: PUSH BC, PUSH DE, PUSH HL
  | push_BC | push_DE | push_HL
  -- R196: PUSH AF
  | push_AF
  -- R197: POP BC, POP DE, POP HL
  | pop_BC | pop_DE | pop_HL
  -- R198: POP AF
  | pop_AF
  -- R211: JP a16
  | jp_a16
  -- R212: JP NZ,a16, JP Z,a16, JP NC,a16, JP C,a16
  | jp_NZ_a16 | jp_Z_a16 | jp_NC_a16 | jp_C_a16
  -- R213: JP HL
  | jp_HL
  -- R214: JR e8
  | jr_e8
  -- R215: JR NZ,e8, JR Z,e8, JR NC,e8, JR C,e8
  | jr_NZ_e8 | jr_Z_e8 | jr_NC_e8 | jr_C_e8
  -- R216: CALL a16
  | call_a16
  -- R217: CALL NZ,a16, CALL Z,a16, CALL NC,a16, CALL C,a16
  | call_NZ_a16 | call_Z_a16 | call_NC_a16 | call_C_a16
  -- R218: RET
  | ret
  -- R219: RET NZ, RET Z, RET NC, RET C
  | ret_NZ | ret_Z | ret_NC | ret_C
  -- R232: RLCA
  | rlca
  -- R233: RLA
  | rla
  -- R234: RRCA
  | rrca
  -- R235: RRA
  | rra
  -- R237
  | rlc_B | rlc_C | rlc_D | rlc_E | rlc_H | rlc_L | rlc_indHL | rlc_A
  -- R238
  | rl_B | rl_C | rl_D | rl_E | rl_H | rl_L | rl_indHL | rl_A
  -- R239
  | rrc_B | rrc_C | rrc_D | rrc_E | rrc_H | rrc_L | rrc_indHL | rrc_A
  -- R240
  | rr_B | rr_C | rr_D | rr_E | rr_H | rr_L | rr_indHL | rr_A
  -- R241
  | bit_0_B | bit_0_C | bit_0_D | bit_0_E | bit_0_H | bit_0_L | bit_0_indHL | bit_0_A | bit_1_B | bit_1_C
  | bit_1_D | bit_1_E | bit_1_H | bit_1_L | bit_1_indHL | bit_1_A | bit_2_B | bit_2_C | bit_2_D | bit_2_E
  | bit_2_H | bit_2_L | bit_2_indHL | bit_2_A | bit_3_B | bit_3_C | bit_3_D | bit_3_E | bit_3_H | bit_3_L
  | bit_3_indHL | bit_3_A | bit_4_B | bit_4_C | bit_4_D | bit_4_E | bit_4_H | bit_4_L | bit_4_indHL | bit_4_A
  | bit_5_B | bit_5_C | bit_5_D | bit_5_E | bit_5_H | bit_5_L | bit_5_indHL | bit_5_A | bit_6_B | bit_6_C
  | bit_6_D | bit_6_E | bit_6_H | bit_6_L | bit_6_indHL | bit_6_A | bit_7_B | bit_7_C | bit_7_D | bit_7_E
  | bit_7_H | bit_7_L | bit_7_indHL | bit_7_A
  -- R255: NOP
  | nop
  -- R256: HALT
  | halt
  deriving DecidableEq, Repr

end Sys2Proof
end

