-- ==== Sys2Proof/WellFormed.lean ====
section
/-! DEFINITION. Which terms stand for something the decode tables can produce. An UNKNOWN descriptor carries a byte that
its table does not admit (30_encoding.md R103). A complete instruction pairs a descriptor with the immediate its format
has (R91). -/

namespace Sys2Proof

/-- The byte values of the base table that decode to UNKNOWN (R103): 29 of them; the prefix 0xCB is not one. -/
def unknownBase : List Byte :=
  [0x10, 0x27, 0x2F, 0x37, 0x3F] ++
  [0xC7, 0xCF, 0xD7, 0xDF, 0xE7, 0xEF, 0xF7, 0xFF] ++
  [0xD9, 0xF3, 0xFB, 0xE8, 0xF8] ++
  [0xD3, 0xDB, 0xDD, 0xE3, 0xE4, 0xEB, 0xEC, 0xED, 0xF4, 0xFC, 0xFD]

/-- The byte values of the extended table that decode to UNKNOWN (R103): SLA, SRA, SWAP and SRL at 0x20 to 0x3F, RES and
SET at 0x80 to 0xFF of the published map. -/
def isUnknownExtended (op2 : Byte) : Bool :=
  (0x20 ≤ op2.toNat && op2.toNat ≤ 0x3F) || 0x80 ≤ op2.toNat

/-- A descriptor that `decode` or `decode_extended` can give. -/
def Instr.wf : Instr → Bool
  | .unknown op => unknownBase.contains op
  | .unknownCb op2 => isUnknownExtended op2
  | _ => true

/-- The formats of R91. -/
inductive Format where
  | OP | OP_D8 | OP_A8 | OP_E8 | OP_D16 | OP_A16 | CB_OP
  deriving DecidableEq, Repr

/-- The format of each descriptor (R91, R101, R102). For UNKNOWN the length is not defined (R257): the table's rows carry
one byte for the base table and two for the extended table, and so does this. -/
def Instr.format : Instr → Format
  | .ld_B_d8 | .ld_C_d8 | .ld_D_d8 | .ld_E_d8 | .ld_H_d8 | .ld_L_d8 | .ld_indHL_d8 | .ld_A_d8 | .add_A_d8
  | .adc_A_d8 | .sub_A_d8 | .sbc_A_d8 | .and_A_d8 | .xor_A_d8 | .or_A_d8 | .cp_A_d8 => .OP_D8
  | .ldh_inda8_A | .ldh_A_inda8 => .OP_A8
  | .jr_e8 | .jr_NZ_e8 | .jr_Z_e8 | .jr_NC_e8 | .jr_C_e8 => .OP_E8
  | .ld_BC_d16 | .ld_DE_d16 | .ld_HL_d16 | .ld_SP_d16 => .OP_D16
  | .ld_inda16_SP | .jp_NZ_a16 | .jp_a16 | .call_NZ_a16 | .jp_Z_a16 | .call_Z_a16 | .call_a16 | .jp_NC_a16
  | .call_NC_a16 | .jp_C_a16 | .call_C_a16 | .ld_inda16_A | .ld_A_inda16 => .OP_A16
  | .rlc_B | .rlc_C | .rlc_D | .rlc_E | .rlc_H | .rlc_L | .rlc_indHL | .rlc_A | .rrc_B | .rrc_C | .rrc_D
  | .rrc_E | .rrc_H | .rrc_L | .rrc_indHL | .rrc_A | .rl_B | .rl_C | .rl_D | .rl_E | .rl_H | .rl_L
  | .rl_indHL | .rl_A | .rr_B | .rr_C | .rr_D | .rr_E | .rr_H | .rr_L | .rr_indHL | .rr_A | .bit_0_B
  | .bit_0_C | .bit_0_D | .bit_0_E | .bit_0_H | .bit_0_L | .bit_0_indHL | .bit_0_A | .bit_1_B | .bit_1_C
  | .bit_1_D | .bit_1_E | .bit_1_H | .bit_1_L | .bit_1_indHL | .bit_1_A | .bit_2_B | .bit_2_C | .bit_2_D
  | .bit_2_E | .bit_2_H | .bit_2_L | .bit_2_indHL | .bit_2_A | .bit_3_B | .bit_3_C | .bit_3_D | .bit_3_E
  | .bit_3_H | .bit_3_L | .bit_3_indHL | .bit_3_A | .bit_4_B | .bit_4_C | .bit_4_D | .bit_4_E | .bit_4_H
  | .bit_4_L | .bit_4_indHL | .bit_4_A | .bit_5_B | .bit_5_C | .bit_5_D | .bit_5_E | .bit_5_H | .bit_5_L
  | .bit_5_indHL | .bit_5_A | .bit_6_B | .bit_6_C | .bit_6_D | .bit_6_E | .bit_6_H | .bit_6_L | .bit_6_indHL
  | .bit_6_A | .bit_7_B | .bit_7_C | .bit_7_D | .bit_7_E | .bit_7_H | .bit_7_L | .bit_7_indHL | .bit_7_A
  | .unknownCb _ => .CB_OP
  | .nop | .ld_indBC_A | .inc_BC | .inc_B | .dec_B | .rlca | .add_HL_BC | .ld_A_indBC | .dec_BC | .inc_C
  | .dec_C | .rrca | .ld_indDE_A | .inc_DE | .inc_D | .dec_D | .rla | .add_HL_DE | .ld_A_indDE | .dec_DE
  | .inc_E | .dec_E | .rra | .ld_indHLinc_A | .inc_HL | .inc_H | .dec_H | .add_HL_HL | .ld_A_indHLinc
  | .dec_HL | .inc_L | .dec_L | .ld_indHLdec_A | .inc_SP | .inc_indHL | .dec_indHL | .add_HL_SP
  | .ld_A_indHLdec | .dec_SP | .inc_A | .dec_A | .ld_B_B | .ld_B_C | .ld_B_D | .ld_B_E | .ld_B_H | .ld_B_L
  | .ld_B_indHL | .ld_B_A | .ld_C_B | .ld_C_C | .ld_C_D | .ld_C_E | .ld_C_H | .ld_C_L | .ld_C_indHL | .ld_C_A
  | .ld_D_B | .ld_D_C | .ld_D_D | .ld_D_E | .ld_D_H | .ld_D_L | .ld_D_indHL | .ld_D_A | .ld_E_B | .ld_E_C
  | .ld_E_D | .ld_E_E | .ld_E_H | .ld_E_L | .ld_E_indHL | .ld_E_A | .ld_H_B | .ld_H_C | .ld_H_D | .ld_H_E
  | .ld_H_H | .ld_H_L | .ld_H_indHL | .ld_H_A | .ld_L_B | .ld_L_C | .ld_L_D | .ld_L_E | .ld_L_H | .ld_L_L
  | .ld_L_indHL | .ld_L_A | .ld_indHL_B | .ld_indHL_C | .ld_indHL_D | .ld_indHL_E | .ld_indHL_H | .ld_indHL_L
  | .halt | .ld_indHL_A | .ld_A_B | .ld_A_C | .ld_A_D | .ld_A_E | .ld_A_H | .ld_A_L | .ld_A_indHL | .ld_A_A
  | .add_A_B | .add_A_C | .add_A_D | .add_A_E | .add_A_H | .add_A_L | .add_A_indHL | .add_A_A | .adc_A_B
  | .adc_A_C | .adc_A_D | .adc_A_E | .adc_A_H | .adc_A_L | .adc_A_indHL | .adc_A_A | .sub_A_B | .sub_A_C
  | .sub_A_D | .sub_A_E | .sub_A_H | .sub_A_L | .sub_A_indHL | .sub_A_A | .sbc_A_B | .sbc_A_C | .sbc_A_D
  | .sbc_A_E | .sbc_A_H | .sbc_A_L | .sbc_A_indHL | .sbc_A_A | .and_A_B | .and_A_C | .and_A_D | .and_A_E
  | .and_A_H | .and_A_L | .and_A_indHL | .and_A_A | .xor_A_B | .xor_A_C | .xor_A_D | .xor_A_E | .xor_A_H
  | .xor_A_L | .xor_A_indHL | .xor_A_A | .or_A_B | .or_A_C | .or_A_D | .or_A_E | .or_A_H | .or_A_L
  | .or_A_indHL | .or_A_A | .cp_A_B | .cp_A_C | .cp_A_D | .cp_A_E | .cp_A_H | .cp_A_L | .cp_A_indHL | .cp_A_A
  | .ret_NZ | .pop_BC | .push_BC | .ret_Z | .ret | .ret_NC | .pop_DE | .push_DE | .ret_C | .pop_HL
  | .ld_indC_A | .push_HL | .jp_HL | .pop_AF | .ld_A_indC | .push_AF | .ld_SP_HL | .unknown _ => .OP

/-- The immediate of a complete instruction (R98): none, a byte (d8, a8, e8), or a word (d16, a16). -/
inductive Imm where
  | none
  | byte (v : Byte)
  | word (v : Word)
  deriving DecidableEq, Repr

/-- A complete instruction: a descriptor and its immediate. -/
structure Insn where
  op : Instr
  imm : Imm
  deriving DecidableEq, Repr

/-- The immediate has the shape that the format asks for (R91). -/
def Imm.fits : Imm → Format → Bool
  | .none, .OP | .none, .CB_OP => true
  | .byte _, .OP_D8 | .byte _, .OP_A8 | .byte _, .OP_E8 => true
  | .word _, .OP_D16 | .word _, .OP_A16 => true
  | .none, _ | .byte _, _ | .word _, _ => false

/-- A complete instruction that some byte sequence stands for. -/
def Insn.wf (i : Insn) : Bool := i.op.wf && i.imm.fits i.op.format

end Sys2Proof
end

