-- ==== Sys2Proof/Decode.lean ====
section
/-! DEFINITION. The decoder of both tables (30_encoding.md R90 to R107), total on every byte, and the encoder. Decoding goes
by the fields of R92 and the code tables of R93 to R97; the encoder is the explicit list of opcode values of R101 and
R102, so the two are written from different places of the spec. -/

namespace Sys2Proof

/-! ## Bytes of a word (R61, R98) -/

/-- `hi : lo` (R8, R22). -/
def joinBytes (hi lo : Byte) : Word := hi ++ lo

/-- Bits 15 to 8. -/
def highByte (v : Word) : Byte := v.extractLsb' 8 8

/-- Bits 7 to 0. -/
def lowByte (v : Word) : Byte := v.extractLsb' 0 8

/-! ## Fields of an opcode byte (R92) -/

/-- x: bits 7 to 6. -/
def fieldX (op : Byte) : Nat := op.toNat / 64
/-- y: bits 5 to 3. -/
def fieldY (op : Byte) : Nat := op.toNat / 8 % 8
/-- z: bits 2 to 0. -/
def fieldZ (op : Byte) : Nat := op.toNat % 8
/-- p: bits 5 to 4. -/
def fieldP (op : Byte) : Nat := op.toNat / 16 % 4
/-- q: bit 3. -/
def fieldQ (op : Byte) : Nat := op.toNat / 8 % 2

/-! ## Code tables (R93 to R97): each takes a code already cut to its field's width -/

/-- R93: the register of codes 0 to 5 and 7; code 6 is (HL) and has no register. -/
def regOfCode : Nat → Option Reg8
  | 0 => some .B | 1 => some .C | 2 => some .D | 3 => some .E
  | 4 => some .H | 5 => some .L | 6 => none | _ => some .A

/-- R93 as an operand: code 6 is the byte at the address in HL. -/
def loc8OfCode (code : Nat) : Loc8 :=
  match regOfCode code with
  | some r => .reg r
  | none => .indHL

/-- The same operand, as second operand of an arithmetic kind (R120). -/
def src8OfCode (code : Nat) : Src8 :=
  match regOfCode code with
  | some r => .reg r
  | none => .indHL

/-- R94, table `rp`. -/
def reg16OfCode : Nat → Reg16
  | 0 => .BC | 1 => .DE | 2 => .HL | _ => .SP

/-- R95. -/
def condOfCode : Nat → Cond
  | 0 => .NZ | 1 => .Z | 2 => .NC | _ => .C

/-- R96. -/
def aluOfCode : Nat → AluOp
  | 0 => .add | 1 => .adc | 2 => .sub | 3 => .sbc
  | 4 => .and | 5 => .xor | 6 => .or | _ => .cp

/-- R97, x=0: codes 4 to 7 (SLA, SRA, SWAP, SRL) are not admitted. -/
def rotOfCode : Nat → Option RotOp
  | 0 => some .rlc | 1 => some .rrc | 2 => some .rl | 3 => some .rr
  | _ => none

/-! ## The instruction that an operation and its operands make (R101, R102) -/

/-- LD r,r' (R161). -/
def Instr.ldRegReg : Reg8 → Reg8 → Instr
  | .B, .B => .ld_B_B | .B, .C => .ld_B_C | .B, .D => .ld_B_D | .B, .E => .ld_B_E | .B, .H => .ld_B_H | .B, .L => .ld_B_L | .B, .A => .ld_B_A
  | .C, .B => .ld_C_B | .C, .C => .ld_C_C | .C, .D => .ld_C_D | .C, .E => .ld_C_E | .C, .H => .ld_C_H | .C, .L => .ld_C_L | .C, .A => .ld_C_A
  | .D, .B => .ld_D_B | .D, .C => .ld_D_C | .D, .D => .ld_D_D | .D, .E => .ld_D_E | .D, .H => .ld_D_H | .D, .L => .ld_D_L | .D, .A => .ld_D_A
  | .E, .B => .ld_E_B | .E, .C => .ld_E_C | .E, .D => .ld_E_D | .E, .E => .ld_E_E | .E, .H => .ld_E_H | .E, .L => .ld_E_L | .E, .A => .ld_E_A
  | .H, .B => .ld_H_B | .H, .C => .ld_H_C | .H, .D => .ld_H_D | .H, .E => .ld_H_E | .H, .H => .ld_H_H | .H, .L => .ld_H_L | .H, .A => .ld_H_A
  | .L, .B => .ld_L_B | .L, .C => .ld_L_C | .L, .D => .ld_L_D | .L, .E => .ld_L_E | .L, .H => .ld_L_H | .L, .L => .ld_L_L | .L, .A => .ld_L_A
  | .A, .B => .ld_A_B | .A, .C => .ld_A_C | .A, .D => .ld_A_D | .A, .E => .ld_A_E | .A, .H => .ld_A_H | .A, .L => .ld_A_L | .A, .A => .ld_A_A

/-- LD r,d8 (R162). -/
def Instr.ldRegD8 : Reg8 → Instr
  | .B => .ld_B_d8 | .C => .ld_C_d8 | .D => .ld_D_d8 | .E => .ld_E_d8
  | .H => .ld_H_d8 | .L => .ld_L_d8 | .A => .ld_A_d8

/-- LD r,(HL) (R163). -/
def Instr.ldRegInd : Reg8 → Instr
  | .B => .ld_B_indHL | .C => .ld_C_indHL | .D => .ld_D_indHL | .E => .ld_E_indHL
  | .H => .ld_H_indHL | .L => .ld_L_indHL | .A => .ld_A_indHL

/-- LD (HL),r (R164). -/
def Instr.ldIndReg : Reg8 → Instr
  | .B => .ld_indHL_B | .C => .ld_indHL_C | .D => .ld_indHL_D | .E => .ld_indHL_E
  | .H => .ld_indHL_H | .L => .ld_indHL_L | .A => .ld_indHL_A

/-- INC r and INC (HL) (R140, R141). -/
def Instr.inc8 : Loc8 → Instr
  | .reg .B => .inc_B | .reg .C => .inc_C | .reg .D => .inc_D | .reg .E => .inc_E
  | .reg .H => .inc_H | .reg .L => .inc_L | .reg .A => .inc_A | .indHL => .inc_indHL

/-- DEC r and DEC (HL) (R142, R143). -/
def Instr.dec8 : Loc8 → Instr
  | .reg .B => .dec_B | .reg .C => .dec_C | .reg .D => .dec_D | .reg .E => .dec_E
  | .reg .H => .dec_H | .reg .L => .dec_L | .reg .A => .dec_A | .indHL => .dec_indHL

/-- INC rr (R144). -/
def Instr.inc16 : Reg16 → Instr
  | .BC => .inc_BC | .DE => .inc_DE | .HL => .inc_HL | .SP => .inc_SP

/-- DEC rr (R145). -/
def Instr.dec16 : Reg16 → Instr
  | .BC => .dec_BC | .DE => .dec_DE | .HL => .dec_HL | .SP => .dec_SP

/-- ADD HL,rr (R146). -/
def Instr.addHL : Reg16 → Instr
  | .BC => .add_HL_BC | .DE => .add_HL_DE | .HL => .add_HL_HL | .SP => .add_HL_SP

/-- LD rr,d16 (R190). -/
def Instr.ld16 : Reg16 → Instr
  | .BC => .ld_BC_d16 | .DE => .ld_DE_d16 | .HL => .ld_HL_d16 | .SP => .ld_SP_d16

/-- PUSH rr (R194). -/
def Instr.push : Pair → Instr
  | .BC => .push_BC | .DE => .push_DE | .HL => .push_HL

/-- POP rr (R197). -/
def Instr.pop : Pair → Instr
  | .BC => .pop_BC | .DE => .pop_DE | .HL => .pop_HL

/-- JP cc,a16 (R212). -/
def Instr.jpCc : Cond → Instr
  | .NZ => .jp_NZ_a16 | .Z => .jp_Z_a16 | .NC => .jp_NC_a16 | .C => .jp_C_a16

/-- JR cc,e8 (R215). -/
def Instr.jrCc : Cond → Instr
  | .NZ => .jr_NZ_e8 | .Z => .jr_Z_e8 | .NC => .jr_NC_e8 | .C => .jr_C_e8

/-- CALL cc,a16 (R217). -/
def Instr.callCc : Cond → Instr
  | .NZ => .call_NZ_a16 | .Z => .call_Z_a16 | .NC => .call_NC_a16 | .C => .call_C_a16

/-- RET cc (R219). -/
def Instr.retCc : Cond → Instr
  | .NZ => .ret_NZ | .Z => .ret_Z | .NC => .ret_NC | .C => .ret_C

/-- ADD, ADC, SUB, SBC, AND, XOR, OR, CP A,x (R121 to R128). -/
def Instr.alu : AluOp → Src8 → Instr
  | .add, .reg .B => .add_A_B | .add, .reg .C => .add_A_C | .add, .reg .D => .add_A_D
  | .add, .reg .E => .add_A_E | .add, .reg .H => .add_A_H | .add, .reg .L => .add_A_L
  | .add, .reg .A => .add_A_A | .add, .indHL => .add_A_indHL | .add, .d8 => .add_A_d8
  | .adc, .reg .B => .adc_A_B | .adc, .reg .C => .adc_A_C | .adc, .reg .D => .adc_A_D
  | .adc, .reg .E => .adc_A_E | .adc, .reg .H => .adc_A_H | .adc, .reg .L => .adc_A_L
  | .adc, .reg .A => .adc_A_A | .adc, .indHL => .adc_A_indHL | .adc, .d8 => .adc_A_d8
  | .sub, .reg .B => .sub_A_B | .sub, .reg .C => .sub_A_C | .sub, .reg .D => .sub_A_D
  | .sub, .reg .E => .sub_A_E | .sub, .reg .H => .sub_A_H | .sub, .reg .L => .sub_A_L
  | .sub, .reg .A => .sub_A_A | .sub, .indHL => .sub_A_indHL | .sub, .d8 => .sub_A_d8
  | .sbc, .reg .B => .sbc_A_B | .sbc, .reg .C => .sbc_A_C | .sbc, .reg .D => .sbc_A_D
  | .sbc, .reg .E => .sbc_A_E | .sbc, .reg .H => .sbc_A_H | .sbc, .reg .L => .sbc_A_L
  | .sbc, .reg .A => .sbc_A_A | .sbc, .indHL => .sbc_A_indHL | .sbc, .d8 => .sbc_A_d8
  | .and, .reg .B => .and_A_B | .and, .reg .C => .and_A_C | .and, .reg .D => .and_A_D
  | .and, .reg .E => .and_A_E | .and, .reg .H => .and_A_H | .and, .reg .L => .and_A_L
  | .and, .reg .A => .and_A_A | .and, .indHL => .and_A_indHL | .and, .d8 => .and_A_d8
  | .xor, .reg .B => .xor_A_B | .xor, .reg .C => .xor_A_C | .xor, .reg .D => .xor_A_D
  | .xor, .reg .E => .xor_A_E | .xor, .reg .H => .xor_A_H | .xor, .reg .L => .xor_A_L
  | .xor, .reg .A => .xor_A_A | .xor, .indHL => .xor_A_indHL | .xor, .d8 => .xor_A_d8
  | .or, .reg .B => .or_A_B | .or, .reg .C => .or_A_C | .or, .reg .D => .or_A_D
  | .or, .reg .E => .or_A_E | .or, .reg .H => .or_A_H | .or, .reg .L => .or_A_L
  | .or, .reg .A => .or_A_A | .or, .indHL => .or_A_indHL | .or, .d8 => .or_A_d8
  | .cp, .reg .B => .cp_A_B | .cp, .reg .C => .cp_A_C | .cp, .reg .D => .cp_A_D
  | .cp, .reg .E => .cp_A_E | .cp, .reg .H => .cp_A_H | .cp, .reg .L => .cp_A_L
  | .cp, .reg .A => .cp_A_A | .cp, .indHL => .cp_A_indHL | .cp, .d8 => .cp_A_d8

/-- RLC, RRC, RL, RR x (R237 to R240). -/
def Instr.rot : RotOp → Loc8 → Instr
  | .rlc, .reg .B => .rlc_B | .rlc, .reg .C => .rlc_C | .rlc, .reg .D => .rlc_D | .rlc, .reg .E => .rlc_E
  | .rlc, .reg .H => .rlc_H | .rlc, .reg .L => .rlc_L | .rlc, .reg .A => .rlc_A | .rlc, .indHL => .rlc_indHL
  | .rrc, .reg .B => .rrc_B | .rrc, .reg .C => .rrc_C | .rrc, .reg .D => .rrc_D | .rrc, .reg .E => .rrc_E
  | .rrc, .reg .H => .rrc_H | .rrc, .reg .L => .rrc_L | .rrc, .reg .A => .rrc_A | .rrc, .indHL => .rrc_indHL
  | .rl, .reg .B => .rl_B | .rl, .reg .C => .rl_C | .rl, .reg .D => .rl_D | .rl, .reg .E => .rl_E
  | .rl, .reg .H => .rl_H | .rl, .reg .L => .rl_L | .rl, .reg .A => .rl_A | .rl, .indHL => .rl_indHL
  | .rr, .reg .B => .rr_B | .rr, .reg .C => .rr_C | .rr, .reg .D => .rr_D | .rr, .reg .E => .rr_E
  | .rr, .reg .H => .rr_H | .rr, .reg .L => .rr_L | .rr, .reg .A => .rr_A | .rr, .indHL => .rr_indHL

/-- BIT b,x (R241). -/
def Instr.bit : Fin 8 → Loc8 → Instr
  | 0, .reg .B => .bit_0_B | 0, .reg .C => .bit_0_C | 0, .reg .D => .bit_0_D | 0, .reg .E => .bit_0_E
  | 0, .reg .H => .bit_0_H | 0, .reg .L => .bit_0_L | 0, .reg .A => .bit_0_A | 0, .indHL => .bit_0_indHL
  | 1, .reg .B => .bit_1_B | 1, .reg .C => .bit_1_C | 1, .reg .D => .bit_1_D | 1, .reg .E => .bit_1_E
  | 1, .reg .H => .bit_1_H | 1, .reg .L => .bit_1_L | 1, .reg .A => .bit_1_A | 1, .indHL => .bit_1_indHL
  | 2, .reg .B => .bit_2_B | 2, .reg .C => .bit_2_C | 2, .reg .D => .bit_2_D | 2, .reg .E => .bit_2_E
  | 2, .reg .H => .bit_2_H | 2, .reg .L => .bit_2_L | 2, .reg .A => .bit_2_A | 2, .indHL => .bit_2_indHL
  | 3, .reg .B => .bit_3_B | 3, .reg .C => .bit_3_C | 3, .reg .D => .bit_3_D | 3, .reg .E => .bit_3_E
  | 3, .reg .H => .bit_3_H | 3, .reg .L => .bit_3_L | 3, .reg .A => .bit_3_A | 3, .indHL => .bit_3_indHL
  | 4, .reg .B => .bit_4_B | 4, .reg .C => .bit_4_C | 4, .reg .D => .bit_4_D | 4, .reg .E => .bit_4_E
  | 4, .reg .H => .bit_4_H | 4, .reg .L => .bit_4_L | 4, .reg .A => .bit_4_A | 4, .indHL => .bit_4_indHL
  | 5, .reg .B => .bit_5_B | 5, .reg .C => .bit_5_C | 5, .reg .D => .bit_5_D | 5, .reg .E => .bit_5_E
  | 5, .reg .H => .bit_5_H | 5, .reg .L => .bit_5_L | 5, .reg .A => .bit_5_A | 5, .indHL => .bit_5_indHL
  | 6, .reg .B => .bit_6_B | 6, .reg .C => .bit_6_C | 6, .reg .D => .bit_6_D | 6, .reg .E => .bit_6_E
  | 6, .reg .H => .bit_6_H | 6, .reg .L => .bit_6_L | 6, .reg .A => .bit_6_A | 6, .indHL => .bit_6_indHL
  | 7, .reg .B => .bit_7_B | 7, .reg .C => .bit_7_C | 7, .reg .D => .bit_7_D | 7, .reg .E => .bit_7_E
  | 7, .reg .H => .bit_7_H | 7, .reg .L => .bit_7_L | 7, .reg .A => .bit_7_A | 7, .indHL => .bit_7_indHL

/-! ## The two decode functions (R99): total, one result for every byte -/

/-- Base table, x = 0. -/
def decodeX0 (op : Byte) : Instr :=
  match fieldZ op with
  | 0 =>
    match fieldY op with
    | 0 => .nop
    | 1 => .ld_inda16_SP
    | 2 => .unknown op
    | 3 => .jr_e8
    | y => Instr.jrCc (condOfCode (y - 4))
  | 1 => if fieldQ op = 0 then Instr.ld16 (reg16OfCode (fieldP op)) else Instr.addHL (reg16OfCode (fieldP op))
  | 2 =>
    match fieldY op with
    | 0 => .ld_indBC_A
    | 1 => .ld_A_indBC
    | 2 => .ld_indDE_A
    | 3 => .ld_A_indDE
    | 4 => .ld_indHLinc_A
    | 5 => .ld_A_indHLinc
    | 6 => .ld_indHLdec_A
    | _ => .ld_A_indHLdec
  | 3 => if fieldQ op = 0 then Instr.inc16 (reg16OfCode (fieldP op)) else Instr.dec16 (reg16OfCode (fieldP op))
  | 4 => Instr.inc8 (loc8OfCode (fieldY op))
  | 5 => Instr.dec8 (loc8OfCode (fieldY op))
  | 6 =>
    match regOfCode (fieldY op) with
    | some r => Instr.ldRegD8 r
    | none => .ld_indHL_d8
  | _ =>
    match fieldY op with
    | 0 => .rlca
    | 1 => .rrca
    | 2 => .rla
    | 3 => .rra
    | _ => .unknown op

/-- Base table, x = 1: the loads between registers and (HL), and HALT in the place of LD (HL),(HL). -/
def decodeX1 (op : Byte) : Instr :=
  match regOfCode (fieldY op), regOfCode (fieldZ op) with
  | some rd, some rs => Instr.ldRegReg rd rs
  | some rd, none => Instr.ldRegInd rd
  | none, some rs => Instr.ldIndReg rs
  | none, none => .halt

/-- Base table, x = 2: the arithmetic kinds on a register or (HL). -/
def decodeX2 (op : Byte) : Instr := Instr.alu (aluOfCode (fieldY op)) (src8OfCode (fieldZ op))

/-- Base table, x = 3. -/
def decodeX3 (op : Byte) : Instr :=
  match fieldZ op with
  | 0 =>
    match fieldY op with
    | 4 => .ldh_inda8_A
    | 6 => .ldh_A_inda8
    | 5 => .unknown op
    | 7 => .unknown op
    | y => Instr.retCc (condOfCode y)
  | 1 =>
    match fieldY op with
    | 0 => .pop_BC
    | 2 => .pop_DE
    | 4 => .pop_HL
    | 6 => .pop_AF
    | 1 => .ret
    | 5 => .jp_HL
    | 7 => .ld_SP_HL
    | _ => .unknown op
  | 2 =>
    match fieldY op with
    | 4 => .ld_indC_A
    | 5 => .ld_inda16_A
    | 6 => .ld_A_indC
    | 7 => .ld_A_inda16
    | y => Instr.jpCc (condOfCode y)
  | 3 =>
    match fieldY op with
    | 0 => .jp_a16
    | _ => .unknown op
  | 4 =>
    match fieldY op with
    | 0 => .call_NZ_a16
    | 1 => .call_Z_a16
    | 2 => .call_NC_a16
    | 3 => .call_C_a16
    | _ => .unknown op
  | 5 =>
    match fieldY op with
    | 0 => .push_BC
    | 2 => .push_DE
    | 4 => .push_HL
    | 6 => .push_AF
    | 1 => .call_a16
    | _ => .unknown op
  | 6 => Instr.alu (aluOfCode (fieldY op)) .d8
  | _ => .unknown op

/-- `decode(byte)` of R99 for the base table (R101, R103). The byte 0xCB is the prefix, which the callers test first
(R251); taken as a base byte it would select nothing. -/
def decodeBase (op : Byte) : Instr :=
  match fieldX op with
  | 0 => decodeX0 op
  | 1 => decodeX1 op
  | 2 => decodeX2 op
  | _ => decodeX3 op

/-- `decode_extended(byte)` of R99 for the table behind the prefix (R102, R103). -/
def decodeExtended (op2 : Byte) : Instr :=
  match fieldX op2 with
  | 0 =>
    match rotOfCode (fieldY op2) with
    | some k => Instr.rot k (loc8OfCode (fieldZ op2))
    | none => .unknownCb op2
  | 1 => Instr.bit (Fin.ofNat 8 (fieldY op2)) (loc8OfCode (fieldZ op2))
  | _ => .unknownCb op2

/-- The extended-prefix byte (R6, R106). -/
def extendedByte : Byte := 0xCB

/-! ## Decoding a byte sequence -/

/-- Why a byte sequence is no complete instruction. Every complete one decodes: UNKNOWN is a descriptor (R104). -/
inductive DecodeError where
  /-- There is no byte. -/
  | noOpcode
  /-- The prefix 0xCB is the last byte. -/
  | noSecondByte
  /-- The sequence ends inside the immediate. -/
  | noImmediate
  deriving DecidableEq, Repr

/-- The descriptor at the head of a byte sequence, and the bytes after its opcode byte(s) (R90, R106). -/
def decodeOp : List Byte → Except DecodeError (Instr × List Byte)
  | [] => .error .noOpcode
  | op :: rest =>
    if op = extendedByte then
      match rest with
      | [] => .error .noSecondByte
      | op2 :: rest2 => .ok (decodeExtended op2, rest2)
    else .ok (decodeBase op, rest)

/-- The immediate that a format has, at the head of a byte sequence (R91, R98): a word has its low byte first (D9). -/
def decodeImm (f : Format) (bs : List Byte) : Except DecodeError (Imm × List Byte) :=
  match f with
  | .OP | .CB_OP => .ok (.none, bs)
  | .OP_D8 | .OP_A8 | .OP_E8 =>
    match bs with
    | v :: rest => .ok (.byte v, rest)
    | [] => .error .noImmediate
  | .OP_D16 | .OP_A16 =>
    match bs with
    | lo :: hi :: rest => .ok (.word (joinBytes hi lo), rest)
    | _ => .error .noImmediate

/-- The complete instruction at the head of a byte sequence, and the bytes after it. -/
def decodeInsn (bs : List Byte) : Except DecodeError (Insn × List Byte) :=
  match decodeOp bs with
  | .error e => .error e
  | .ok (op, rest) =>
    match decodeImm op.format rest with
    | .error e => .error e
    | .ok (imm, rest2) => .ok (⟨op, imm⟩, rest2)

/-- The first `n` complete instructions of a byte sequence, and the bytes after them. -/
def decodeMany : Nat → List Byte → Except DecodeError (List Insn × List Byte)
  | 0, bs => .ok ([], bs)
  | n + 1, bs =>
    match decodeInsn bs with
    | .error e => .error e
    | .ok (i, rest) =>
      match decodeMany n rest with
      | .error e => .error e
      | .ok (is, rest2) => .ok (i :: is, rest2)

/-! ## The encoder -/

/-- The opcode byte(s) of a descriptor, as R101 and R102 list them. -/
def encodeOp : Instr → List Byte
  | .nop => [0x00] | .ld_BC_d16 => [0x01] | .ld_indBC_A => [0x02] | .inc_BC => [0x03] | .inc_B => [0x04]
  | .dec_B => [0x05] | .ld_B_d8 => [0x06] | .rlca => [0x07] | .ld_inda16_SP => [0x08] | .add_HL_BC => [0x09]
  | .ld_A_indBC => [0x0A] | .dec_BC => [0x0B] | .inc_C => [0x0C] | .dec_C => [0x0D] | .ld_C_d8 => [0x0E]
  | .rrca => [0x0F] | .ld_DE_d16 => [0x11] | .ld_indDE_A => [0x12] | .inc_DE => [0x13] | .inc_D => [0x14]
  | .dec_D => [0x15] | .ld_D_d8 => [0x16] | .rla => [0x17] | .jr_e8 => [0x18] | .add_HL_DE => [0x19]
  | .ld_A_indDE => [0x1A] | .dec_DE => [0x1B] | .inc_E => [0x1C] | .dec_E => [0x1D] | .ld_E_d8 => [0x1E]
  | .rra => [0x1F] | .jr_NZ_e8 => [0x20] | .ld_HL_d16 => [0x21] | .ld_indHLinc_A => [0x22] | .inc_HL => [0x23]
  | .inc_H => [0x24] | .dec_H => [0x25] | .ld_H_d8 => [0x26] | .jr_Z_e8 => [0x28] | .add_HL_HL => [0x29]
  | .ld_A_indHLinc => [0x2A] | .dec_HL => [0x2B] | .inc_L => [0x2C] | .dec_L => [0x2D] | .ld_L_d8 => [0x2E]
  | .jr_NC_e8 => [0x30] | .ld_SP_d16 => [0x31] | .ld_indHLdec_A => [0x32] | .inc_SP => [0x33]
  | .inc_indHL => [0x34] | .dec_indHL => [0x35] | .ld_indHL_d8 => [0x36] | .jr_C_e8 => [0x38]
  | .add_HL_SP => [0x39] | .ld_A_indHLdec => [0x3A] | .dec_SP => [0x3B] | .inc_A => [0x3C] | .dec_A => [0x3D]
  | .ld_A_d8 => [0x3E] | .ld_B_B => [0x40] | .ld_B_C => [0x41] | .ld_B_D => [0x42] | .ld_B_E => [0x43]
  | .ld_B_H => [0x44] | .ld_B_L => [0x45] | .ld_B_indHL => [0x46] | .ld_B_A => [0x47] | .ld_C_B => [0x48]
  | .ld_C_C => [0x49] | .ld_C_D => [0x4A] | .ld_C_E => [0x4B] | .ld_C_H => [0x4C] | .ld_C_L => [0x4D]
  | .ld_C_indHL => [0x4E] | .ld_C_A => [0x4F] | .ld_D_B => [0x50] | .ld_D_C => [0x51] | .ld_D_D => [0x52]
  | .ld_D_E => [0x53] | .ld_D_H => [0x54] | .ld_D_L => [0x55] | .ld_D_indHL => [0x56] | .ld_D_A => [0x57]
  | .ld_E_B => [0x58] | .ld_E_C => [0x59] | .ld_E_D => [0x5A] | .ld_E_E => [0x5B] | .ld_E_H => [0x5C]
  | .ld_E_L => [0x5D] | .ld_E_indHL => [0x5E] | .ld_E_A => [0x5F] | .ld_H_B => [0x60] | .ld_H_C => [0x61]
  | .ld_H_D => [0x62] | .ld_H_E => [0x63] | .ld_H_H => [0x64] | .ld_H_L => [0x65] | .ld_H_indHL => [0x66]
  | .ld_H_A => [0x67] | .ld_L_B => [0x68] | .ld_L_C => [0x69] | .ld_L_D => [0x6A] | .ld_L_E => [0x6B]
  | .ld_L_H => [0x6C] | .ld_L_L => [0x6D] | .ld_L_indHL => [0x6E] | .ld_L_A => [0x6F] | .ld_indHL_B => [0x70]
  | .ld_indHL_C => [0x71] | .ld_indHL_D => [0x72] | .ld_indHL_E => [0x73] | .ld_indHL_H => [0x74]
  | .ld_indHL_L => [0x75] | .halt => [0x76] | .ld_indHL_A => [0x77] | .ld_A_B => [0x78] | .ld_A_C => [0x79]
  | .ld_A_D => [0x7A] | .ld_A_E => [0x7B] | .ld_A_H => [0x7C] | .ld_A_L => [0x7D] | .ld_A_indHL => [0x7E]
  | .ld_A_A => [0x7F] | .add_A_B => [0x80] | .add_A_C => [0x81] | .add_A_D => [0x82] | .add_A_E => [0x83]
  | .add_A_H => [0x84] | .add_A_L => [0x85] | .add_A_indHL => [0x86] | .add_A_A => [0x87] | .adc_A_B => [0x88]
  | .adc_A_C => [0x89] | .adc_A_D => [0x8A] | .adc_A_E => [0x8B] | .adc_A_H => [0x8C] | .adc_A_L => [0x8D]
  | .adc_A_indHL => [0x8E] | .adc_A_A => [0x8F] | .sub_A_B => [0x90] | .sub_A_C => [0x91] | .sub_A_D => [0x92]
  | .sub_A_E => [0x93] | .sub_A_H => [0x94] | .sub_A_L => [0x95] | .sub_A_indHL => [0x96] | .sub_A_A => [0x97]
  | .sbc_A_B => [0x98] | .sbc_A_C => [0x99] | .sbc_A_D => [0x9A] | .sbc_A_E => [0x9B] | .sbc_A_H => [0x9C]
  | .sbc_A_L => [0x9D] | .sbc_A_indHL => [0x9E] | .sbc_A_A => [0x9F] | .and_A_B => [0xA0] | .and_A_C => [0xA1]
  | .and_A_D => [0xA2] | .and_A_E => [0xA3] | .and_A_H => [0xA4] | .and_A_L => [0xA5] | .and_A_indHL => [0xA6]
  | .and_A_A => [0xA7] | .xor_A_B => [0xA8] | .xor_A_C => [0xA9] | .xor_A_D => [0xAA] | .xor_A_E => [0xAB]
  | .xor_A_H => [0xAC] | .xor_A_L => [0xAD] | .xor_A_indHL => [0xAE] | .xor_A_A => [0xAF] | .or_A_B => [0xB0]
  | .or_A_C => [0xB1] | .or_A_D => [0xB2] | .or_A_E => [0xB3] | .or_A_H => [0xB4] | .or_A_L => [0xB5]
  | .or_A_indHL => [0xB6] | .or_A_A => [0xB7] | .cp_A_B => [0xB8] | .cp_A_C => [0xB9] | .cp_A_D => [0xBA]
  | .cp_A_E => [0xBB] | .cp_A_H => [0xBC] | .cp_A_L => [0xBD] | .cp_A_indHL => [0xBE] | .cp_A_A => [0xBF]
  | .ret_NZ => [0xC0] | .pop_BC => [0xC1] | .jp_NZ_a16 => [0xC2] | .jp_a16 => [0xC3] | .call_NZ_a16 => [0xC4]
  | .push_BC => [0xC5] | .add_A_d8 => [0xC6] | .ret_Z => [0xC8] | .ret => [0xC9] | .jp_Z_a16 => [0xCA]
  | .call_Z_a16 => [0xCC] | .call_a16 => [0xCD] | .adc_A_d8 => [0xCE] | .ret_NC => [0xD0] | .pop_DE => [0xD1]
  | .jp_NC_a16 => [0xD2] | .call_NC_a16 => [0xD4] | .push_DE => [0xD5] | .sub_A_d8 => [0xD6] | .ret_C => [0xD8]
  | .jp_C_a16 => [0xDA] | .call_C_a16 => [0xDC] | .sbc_A_d8 => [0xDE] | .ldh_inda8_A => [0xE0]
  | .pop_HL => [0xE1] | .ld_indC_A => [0xE2] | .push_HL => [0xE5] | .and_A_d8 => [0xE6] | .jp_HL => [0xE9]
  | .ld_inda16_A => [0xEA] | .xor_A_d8 => [0xEE] | .ldh_A_inda8 => [0xF0] | .pop_AF => [0xF1]
  | .ld_A_indC => [0xF2] | .push_AF => [0xF5] | .or_A_d8 => [0xF6] | .ld_SP_HL => [0xF9]
  | .ld_A_inda16 => [0xFA] | .cp_A_d8 => [0xFE] | .rlc_B => [0xCB, 0x00] | .rlc_C => [0xCB, 0x01]
  | .rlc_D => [0xCB, 0x02] | .rlc_E => [0xCB, 0x03] | .rlc_H => [0xCB, 0x04] | .rlc_L => [0xCB, 0x05]
  | .rlc_indHL => [0xCB, 0x06] | .rlc_A => [0xCB, 0x07] | .rrc_B => [0xCB, 0x08] | .rrc_C => [0xCB, 0x09]
  | .rrc_D => [0xCB, 0x0A] | .rrc_E => [0xCB, 0x0B] | .rrc_H => [0xCB, 0x0C] | .rrc_L => [0xCB, 0x0D]
  | .rrc_indHL => [0xCB, 0x0E] | .rrc_A => [0xCB, 0x0F] | .rl_B => [0xCB, 0x10] | .rl_C => [0xCB, 0x11]
  | .rl_D => [0xCB, 0x12] | .rl_E => [0xCB, 0x13] | .rl_H => [0xCB, 0x14] | .rl_L => [0xCB, 0x15]
  | .rl_indHL => [0xCB, 0x16] | .rl_A => [0xCB, 0x17] | .rr_B => [0xCB, 0x18] | .rr_C => [0xCB, 0x19]
  | .rr_D => [0xCB, 0x1A] | .rr_E => [0xCB, 0x1B] | .rr_H => [0xCB, 0x1C] | .rr_L => [0xCB, 0x1D]
  | .rr_indHL => [0xCB, 0x1E] | .rr_A => [0xCB, 0x1F] | .bit_0_B => [0xCB, 0x40] | .bit_0_C => [0xCB, 0x41]
  | .bit_0_D => [0xCB, 0x42] | .bit_0_E => [0xCB, 0x43] | .bit_0_H => [0xCB, 0x44] | .bit_0_L => [0xCB, 0x45]
  | .bit_0_indHL => [0xCB, 0x46] | .bit_0_A => [0xCB, 0x47] | .bit_1_B => [0xCB, 0x48]
  | .bit_1_C => [0xCB, 0x49] | .bit_1_D => [0xCB, 0x4A] | .bit_1_E => [0xCB, 0x4B] | .bit_1_H => [0xCB, 0x4C]
  | .bit_1_L => [0xCB, 0x4D] | .bit_1_indHL => [0xCB, 0x4E] | .bit_1_A => [0xCB, 0x4F]
  | .bit_2_B => [0xCB, 0x50] | .bit_2_C => [0xCB, 0x51] | .bit_2_D => [0xCB, 0x52] | .bit_2_E => [0xCB, 0x53]
  | .bit_2_H => [0xCB, 0x54] | .bit_2_L => [0xCB, 0x55] | .bit_2_indHL => [0xCB, 0x56]
  | .bit_2_A => [0xCB, 0x57] | .bit_3_B => [0xCB, 0x58] | .bit_3_C => [0xCB, 0x59] | .bit_3_D => [0xCB, 0x5A]
  | .bit_3_E => [0xCB, 0x5B] | .bit_3_H => [0xCB, 0x5C] | .bit_3_L => [0xCB, 0x5D]
  | .bit_3_indHL => [0xCB, 0x5E] | .bit_3_A => [0xCB, 0x5F] | .bit_4_B => [0xCB, 0x60]
  | .bit_4_C => [0xCB, 0x61] | .bit_4_D => [0xCB, 0x62] | .bit_4_E => [0xCB, 0x63] | .bit_4_H => [0xCB, 0x64]
  | .bit_4_L => [0xCB, 0x65] | .bit_4_indHL => [0xCB, 0x66] | .bit_4_A => [0xCB, 0x67]
  | .bit_5_B => [0xCB, 0x68] | .bit_5_C => [0xCB, 0x69] | .bit_5_D => [0xCB, 0x6A] | .bit_5_E => [0xCB, 0x6B]
  | .bit_5_H => [0xCB, 0x6C] | .bit_5_L => [0xCB, 0x6D] | .bit_5_indHL => [0xCB, 0x6E]
  | .bit_5_A => [0xCB, 0x6F] | .bit_6_B => [0xCB, 0x70] | .bit_6_C => [0xCB, 0x71] | .bit_6_D => [0xCB, 0x72]
  | .bit_6_E => [0xCB, 0x73] | .bit_6_H => [0xCB, 0x74] | .bit_6_L => [0xCB, 0x75]
  | .bit_6_indHL => [0xCB, 0x76] | .bit_6_A => [0xCB, 0x77] | .bit_7_B => [0xCB, 0x78]
  | .bit_7_C => [0xCB, 0x79] | .bit_7_D => [0xCB, 0x7A] | .bit_7_E => [0xCB, 0x7B] | .bit_7_H => [0xCB, 0x7C]
  | .bit_7_L => [0xCB, 0x7D] | .bit_7_indHL => [0xCB, 0x7E] | .bit_7_A => [0xCB, 0x7F]
  | .unknown op => [op]
  | .unknownCb op2 => [0xCB, op2]

/-- The bytes of an immediate (R91, R98, D9). -/
def encodeImm : Imm → List Byte
  | .none => []
  | .byte v => [v]
  | .word v => [lowByte v, highByte v]

/-- The bytes of a complete instruction, lowest address first. -/
def encode (i : Insn) : List Byte := encodeOp i.op ++ encodeImm i.imm

/-- The number of opcode bytes and immediate bytes (R90, R91, R254). -/
def Instr.length (i : Instr) : Nat :=
  match i.format with
  | .OP => 1
  | .OP_D8 | .OP_A8 | .OP_E8 | .CB_OP => 2
  | .OP_D16 | .OP_A16 => 3

/-! ## Words of the opcode table -/

/-- The three bytes, lowest address first, that a word of `nbits` bits stands for, every bit above them zero. A later byte's
bits count on from an earlier one's; but the table's 16-bit rows are written "byte 0 first" with the prefix in the high
half (`match` = 0xCBnn, R110), so a 16-bit word whose high half is 0xCB has the prefix as its first byte (log 10). -/
def tableBytes (nbits w : Nat) : List Byte :=
  let v := w % 2 ^ nbits
  let b0 : Byte := BitVec.ofNat 8 v
  let b1 : Byte := BitVec.ofNat 8 (v / 256)
  let b2 : Byte := BitVec.ofNat 8 (v / 65536)
  if nbits = 16 ∧ b1 = extendedByte then [b1, b0, 0] else [b0, b1, b2]

/-- The instruction that the decoder reads from such a word. -/
def decodeTableWord (nbits w : Nat) : Option Instr :=
  match decodeInsn (tableBytes nbits w) with
  | .ok (i, _) => some i.op
  | .error _ => none

end Sys2Proof
end

