-- ==== Sys2Proof/Config.lean ====
section
/-! DEFINITION. The shape of the named parameters that the spec leaves to the implementation and that a step
consults: REGIONS, CYC and CLK_W (00_scope.md R7). Their default values stand in Machine/Defaults.lean.
The other parameters of R7 are inputs of construction (Machine/Construct.lean). Log 2. -/

namespace Sys2Proof

/-- A contiguous address range, first and last address included (R51, R52). -/
structure Span where
  first : Nat
  last : Nat
  deriving DecidableEq, Repr

/-- REGIONS (R52): the five ranges that an implementation chooses. BOOT is not among them, since every
instantiation keeps it at 0x0000 to 0x00FF. -/
structure Regions where
  rom0 : Span
  vram : Span
  wram : Span
  io : Span
  hram : Span
  deriving DecidableEq, Repr

/-- CYC (R335): the cycle cost of every instruction form, one field per row of the rule's table, in its order. -/
structure CycleTable where
  nop : Nat
  halt : Nat
  aluR : Nat
  aluHl : Nat
  aluD8 : Nat
  incdecR : Nat
  incdecHl : Nat
  incdecRr : Nat
  addHlRr : Nat
  ldRR : Nat
  ldRD8 : Nat
  ldRHl : Nat
  ldHlR : Nat
  ldHlD8 : Nat
  ldARr : Nat
  ldRrA : Nat
  ldHliA : Nat
  ldHldA : Nat
  ldAHli : Nat
  ldAHld : Nat
  ldhA8A : Nat
  ldhAA8 : Nat
  ldCA : Nat
  ldAC : Nat
  ldA16A : Nat
  ldAA16 : Nat
  ldRrD16 : Nat
  ldA16Sp : Nat
  ldSpHl : Nat
  push : Nat
  pop : Nat
  jpTaken : Nat
  jpNotTaken : Nat
  jpHl : Nat
  jrTaken : Nat
  jrNotTaken : Nat
  callTaken : Nat
  callNotTaken : Nat
  ret : Nat
  retCcTaken : Nat
  retCcNotTaken : Nat
  rotA : Nat
  cbRotR : Nat
  cbRotHl : Nat
  cbBitR : Nat
  cbBitHl : Nat
  deriving DecidableEq, Repr

/-- The parameters a step consults (R7). -/
structure Config where
  regions : Regions
  cyc : CycleTable
  /-- CLK_W: the width in bits of the cycle counter (R33). -/
  clkW : Nat
  deriving DecidableEq, Repr

end Sys2Proof
end

