-- ==== Sys2Proof/Machine/Defaults.lean ====
section
/-! DEFINITION. The default values of the parameters REGIONS, CYC and CLK_W (20_memory.md R52, 70_reset_and_hazards.md R335,
00_scope.md R7), and the byte that an unlisted place of a memory array holds. All of them are the spec's own choices
(D3, D5, D19, D7); log 2, 5, 13. -/

namespace Sys2Proof.Machine

/-- R52. Every other address is unmapped: 0x4000-0x7FFF, 0xA000-0xBFFF, 0xE000-0xFEFF, 0xFFFF. -/
def defaultRegions : Regions where
  rom0 := ⟨0x0000, 0x3FFF⟩
  vram := ⟨0x8000, 0x9FFF⟩
  wram := ⟨0xC000, 0xDFFF⟩
  io := ⟨0xFF00, 0xFF7F⟩
  hram := ⟨0xFF80, 0xFFFE⟩

/-- R335. -/
def defaultCycles : CycleTable where
  nop := 4
  halt := 4
  aluR := 4
  aluHl := 8
  aluD8 := 8
  incdecR := 4
  incdecHl := 12
  incdecRr := 8
  addHlRr := 8
  ldRR := 4
  ldRD8 := 8
  ldRHl := 8
  ldHlR := 8
  ldHlD8 := 12
  ldARr := 8
  ldRrA := 8
  ldHliA := 8
  ldHldA := 8
  ldAHli := 8
  ldAHld := 8
  ldhA8A := 12
  ldhAA8 := 12
  ldCA := 8
  ldAC := 8
  ldA16A := 16
  ldAA16 := 16
  ldRrD16 := 12
  ldA16Sp := 20
  ldSpHl := 8
  push := 16
  pop := 12
  jpTaken := 16
  jpNotTaken := 12
  jpHl := 4
  jrTaken := 12
  jrNotTaken := 8
  callTaken := 24
  callNotTaken := 12
  ret := 16
  retCcTaken := 20
  retCcNotTaken := 8
  rotA := 4
  cbRotR := 8
  cbRotHl := 16
  cbBitR := 8
  cbBitHl := 12

/-- R7. -/
def defaultConfig : Config where
  regions := defaultRegions
  cyc := defaultCycles
  clkW := 64

/-- What a place of a memory array that the state does not list holds: 0x00, the default of RAM_INIT (R39, D7). -/
def unlistedByte : Byte := 0x00

end Sys2Proof.Machine
end

