-- ==== Sys2Proof/Machine/State.lean ====
section
/-! DEFINITION. The state of ohboy CORE as plain data (10_state.md R20 to R39), why a step can stop, and the state after
reset. INVENTORY.md lists every field with its rule and its reset value. -/

namespace Sys2Proof.Machine

/-- The seven 8-bit general registers (R21). BC, DE, HL and AF are views of them (R22, R23). -/
structure Regs where
  a : Byte
  b : Byte
  c : Byte
  d : Byte
  e : Byte
  h : Byte
  l : Byte
  deriving DecidableEq, Repr

/-- The flags register (R28): zero, subtract, half-carry, carry. Its packed byte is `Flags.toByte`. -/
structure Flags where
  z : Bool
  n : Bool
  h : Bool
  c : Bool
  deriving DecidableEq, Repr

/-- The run state (R32). -/
inductive RunState where
  | running | halted
  deriving DecidableEq, Repr

/-- The four modes of the graphics timing unit (R36, R270). -/
inductive GpuMode where
  | oamScan | vramScan | hblank | vblank
  deriving DecidableEq, Repr

/-- The graphics-timing state (R36). -/
structure Gpu where
  mode : GpuMode
  /-- The mode-local cycle counter. -/
  ctr : Nat
  /-- The scanline counter. -/
  line : Nat
  deriving DecidableEq, Repr

/-- The contents of one region's byte array (R38): the places, counted from the region's first address, that hold something
other than `unlistedByte`, in rising order. `Memory.wf` is this canonical form. -/
abbrev Memory := List Host.Cell

/-- The six regions (R51). -/
inductive Region where
  | boot | rom0 | vram | wram | io | hram
  deriving DecidableEq, Repr

/-- The opcode that a fault names (R290): the byte of the base table, or 0xCB with the byte after it (log 24). -/
inductive Opcode where
  | base (op : Byte)
  | extended (op2 : Byte)
  deriving DecidableEq, Repr

/-- The two images that construction takes (R320). -/
inductive Image where
  | boot | rom
  deriving DecidableEq, Repr

/-- The four fatal conditions (R290). Safe, all of them: the spec stops the machine there (R292), and so does the model. -/
inductive Fault where
  /-- Raised by `State.memRead` and `State.memWrite` on an address that selects no region (R54). Safe. -/
  | unmappedAccess (addr : Word)
  /-- Raised by the meaning of the UNKNOWN descriptor (R257), with the PC of its first byte. Safe. -/
  | unknownOpcode (opcode : Opcode) (position : Word)
  /-- A disagreement of decode and execute tables. Raised by nothing: no program can raise it (R258). Kept because R258 asks a
  model to keep the constructor. Safe. -/
  | operandMismatch (opcode : Opcode) (mnemonic : String)
  /-- Raised by `construct` on an image of the wrong length, before any step (R321). Safe. -/
  | bufferSize (image : Image)
  deriving DecidableEq, Repr

/-- The model has a meaning for every instruction, so nothing refuses. -/
inductive Refusal where
  /-- An instruction without a meaning, rejected by name in `exec`'s arm. No arm is. Safe. -/
  | notModelled (mnemonic : String)
  deriving DecidableEq, Repr

/-- Everything the spec gives the machine (R20 to R39), and the construction parameters that a step consults (R7). -/
structure State where
  regs : Regs
  flags : Flags
  /-- PC (R25): between steps, the address of the next instruction's first byte. -/
  pc : Word
  /-- SP (R27): the address of the most recently pushed byte. -/
  sp : Word
  run : RunState
  /-- The cycle counter (R33), below 2^CLK_W. -/
  clk : Nat
  /-- The fault latch (R34). -/
  fault : Option Fault
  /-- boot_active (R35). -/
  bootActive : Bool
  gpu : Gpu
  /-- The boot overlay's 256 bytes (R38). -/
  boot : Memory
  /-- Cartridge ROM bank 0 (R38). -/
  rom0 : Memory
  /-- Video RAM (R38). -/
  vram : Memory
  /-- Working RAM (R38). -/
  wram : Memory
  /-- High RAM (R38). -/
  hram : Memory
  /-- REGIONS, CYC and CLK_W (R7): fixed at construction, written by no step (log 2). -/
  cfg : Config
  deriving DecidableEq, Repr

/-- What a meaning and a step answer. -/
abbrev Result := Host.Outcome State Fault Refusal

/-- The state after reset (R39, R320) with every parameter at its default and both images all zero (log 3, 4, 5, 6). -/
def State.reset : State where
  regs := ⟨0x00, 0x00, 0x00, 0x00, 0x00, 0x00, 0x00⟩
  flags := ⟨false, false, false, false⟩
  pc := 0x0000
  sp := 0x0000
  run := .running
  clk := 0
  fault := none
  bootActive := true
  gpu := ⟨.hblank, 0, 0⟩
  boot := []
  rom0 := []
  vram := []
  wram := []
  hram := []
  cfg := defaultConfig

end Sys2Proof.Machine
end

