-- ==== Sys2Proof/Machine/Flags.lean ====
section
/-! DEFINITION. The flags register's packed byte (10_state.md R10, R28), the conditions (44_control.md R210), and every result
and flag computation: 8-bit arithmetic (40_alu8.md), increments, decrements and the 16-bit add (41_incdec_add16.md),
rotates and bit test (45_bit_rotate.md). -/

namespace Sys2Proof.Machine

/-- `Fbyte = F.z<<7 | F.n<<6 | F.h<<5 | F.c<<4` (R28). -/
def Flags.toByte (f : Flags) : Byte :=
  BitVec.ofNat 8 (f.z.toNat * 128 + f.n.toNat * 64 + f.h.toNat * 32 + f.c.toNat * 16)

/-- `Fbyte <- v` (R10): bits 3 to 0 are dropped. -/
def Flags.ofByte (v : Byte) : Flags := ⟨v.getLsbD 7, v.getLsbD 6, v.getLsbD 5, v.getLsbD 4⟩

/-- `cond(cc)` (R210). -/
def Flags.holds (f : Flags) : Cond → Bool
  | .Z => f.z
  | .NZ => !f.z
  | .C => f.c
  | .NC => !f.c

/-- A result byte and the four flags. -/
structure ByteResult where
  value : Byte
  flags : Flags
  deriving DecidableEq, Repr

/-- ADD (`cin` false) and ADC (R121, R122): the sum is exact, then cut to 8 bits. -/
def addBytes (a v : Byte) (cin : Bool) : ByteResult :=
  let sum := a.toNat + v.toNat + cin.toNat
  let res : Byte := BitVec.ofNat 8 sum
  { value := res
    flags :=
      { z := decide (res = 0)
        n := false
        h := decide (0xF < a.toNat % 16 + v.toNat % 16 + cin.toNat)
        c := decide (0xFF < sum) } }

/-- SUB and CP (`cin` false) and SBC (R123, R124, R128): the comparisons are over the integers. -/
def subBytes (a v : Byte) (cin : Bool) : ByteResult :=
  let res : Byte := a - v - BitVec.ofNat 8 cin.toNat
  { value := res
    flags :=
      { z := decide (res = 0)
        n := true
        h := decide (a.toNat % 16 < v.toNat % 16 + cin.toNat)
        c := decide (a.toNat < v.toNat + cin.toNat) } }

/-- AND (R125). -/
def andBytes (a v : Byte) : ByteResult := ⟨a &&& v, ⟨decide (a &&& v = 0), false, true, false⟩⟩

/-- XOR (R126). -/
def xorBytes (a v : Byte) : ByteResult := ⟨a ^^^ v, ⟨decide (a ^^^ v = 0), false, false, false⟩⟩

/-- OR (R127). -/
def orBytes (a v : Byte) : ByteResult := ⟨a ||| v, ⟨decide (a ||| v = 0), false, false, false⟩⟩

/-- INC of a byte (R140): `F.c` is kept, half-carry is read off the value before the operation. -/
def incByte (old : Byte) (f : Flags) : ByteResult :=
  ⟨old + 1, ⟨decide (old + 1 = 0), false, decide (old.toNat % 16 = 0xF), f.c⟩⟩

/-- DEC of a byte (R142): `F.c` is kept, half-carry is read off the value before the operation. -/
def decByte (old : Byte) (f : Flags) : ByteResult :=
  ⟨old - 1, ⟨decide (old - 1 = 0), true, decide (old.toNat % 16 = 0x0), f.c⟩⟩

/-- The flags of ADD HL,rr (R146): `F.z` is kept, `F.n` is cleared (D10, log 14). -/
def addWordFlags (hl v : Word) (f : Flags) : Flags :=
  { z := f.z
    n := false
    h := decide (0x0FFF < hl.toNat % 0x1000 + v.toNat % 0x1000)
    c := decide (0xFFFF < hl.toNat + v.toNat) }

/-- The direction of a rotate (R231). -/
inductive RotDir where
  | left | right
  deriving DecidableEq, Repr

/-- What enters the vacated bit (R231): the bit shifted out, or the carry before the instruction. -/
inductive RotVariant where
  | wrap | through
  deriving DecidableEq, Repr

/-- `Rot(v, dir, variant)` (R231): the result and the bit shifted out. -/
def rotate (v : Byte) (dir : RotDir) (variant : RotVariant) (carry : Bool) : Byte × Bool :=
  match dir with
  | .left =>
    let out := v.getLsbD 7
    let inn := match variant with | .wrap => out | .through => carry
    ((v <<< 1) ||| BitVec.ofNat 8 inn.toNat, out)
  | .right =>
    let out := v.getLsbD 0
    let inn := match variant with | .wrap => out | .through => carry
    ((v >>> 1) ||| (BitVec.ofNat 8 inn.toNat <<< 7), out)

/-- A prefixed rotate (R237 to R240): z from the result, n and h cleared (D11, log 15). -/
def rotByte (k : RotOp) (v : Byte) (carry : Bool) : ByteResult :=
  let r :=
    match k with
    | .rlc => rotate v .left .wrap carry
    | .rrc => rotate v .right .wrap carry
    | .rl => rotate v .left .through carry
    | .rr => rotate v .right .through carry
  ⟨r.1, ⟨decide (r.1 = 0), false, false, r.2⟩⟩

/-- The flags of BIT b,x (R241): `F.h` is cleared (C7), `F.c` is kept. -/
def bitFlags (b : Fin 8) (v : Byte) (f : Flags) : Flags := ⟨!v.getLsbD b.val, false, false, f.c⟩

end Sys2Proof.Machine
end

