-- ==== Sys2Proof/Machine/Graphics.lean ====
section
/-! DEFINITION. The graphics-timing mode state machine (47_graphics_timing.md R270 to R280). -/

namespace Sys2Proof.Machine

/-- T_OAM, T_VRAM, T_HBLANK and T_VBLANK (R270). -/
def GpuMode.threshold : GpuMode → Nat
  | .oamScan => 80
  | .vramScan => 172
  | .hblank => 204
  | .vblank => 456

/-- LINE_VBLANK (R270): the first line of vertical blank. -/
abbrev lineVblank : Nat := 144

/-- LINE_LAST (R270). -/
abbrev lineLast : Nat := 153

/-- `Advance(cycles)` (R271 to R276): the rule of the current mode, applied once; the counter restarts at 0 and cycles above
the threshold are dropped (D18). -/
def Gpu.advance (g : Gpu) (cycles : Nat) : Gpu :=
  let ctr := g.ctr + cycles
  if ctr < g.mode.threshold then { g with ctr := ctr }
  else
    match g.mode with
    | .oamScan => { g with ctr := 0, mode := .vramScan }
    | .vramScan => { g with ctr := 0, mode := .hblank }
    | .hblank => { ctr := 0, line := g.line + 1, mode := if g.line + 1 = lineVblank then .vblank else .oamScan }
    | .vblank =>
      if lineLast < g.line + 1 then { ctr := 0, line := 0, mode := .oamScan }
      else { ctr := 0, line := g.line + 1, mode := .vblank }

/-- The unit's two output pulses (R277). They are outputs to the host, not state. -/
inductive Pulse where
  | scanlineDone | frameComplete
  deriving DecidableEq, Repr

/-- The pulse that `Advance(cycles)` emits (R273, R274). -/
def Gpu.pulse (g : Gpu) (cycles : Nat) : Option Pulse :=
  if g.ctr + cycles < g.mode.threshold then none
  else
    match g.mode with
    | .vramScan => some .scanlineDone
    | .hblank => if g.line + 1 = lineVblank then some .frameComplete else none
    | .oamScan => none
    | .vblank => none

end Sys2Proof.Machine
end

