-- ==== Sys2Proof/Machine/Memory.lean ====
section
/-! DEFINITION. One region's byte array (10_state.md R38) as a list of cells in canonical form. -/

namespace Sys2Proof.Machine

/-- The byte at place `k`. -/
def Memory.get : Memory → Nat → Byte
  | [], _ => unlistedByte
  | (k', v) :: m, k => if k' = k then v else Memory.get m k

/-- Store `v` at place `k`. Storing what an unlisted place holds removes the cell. -/
def Memory.set : Memory → Nat → Byte → Memory
  | [], k, v => if v = unlistedByte then [] else [(k, v)]
  | (k', v') :: m, k, v =>
    if k < k' then
      if v = unlistedByte then (k', v') :: m else (k, v) :: (k', v') :: m
    else if k' = k then
      if v = unlistedByte then m else (k, v) :: m
    else (k', v') :: Memory.set m k v

/-- The cells' places are at least `lo` and strictly rising, and no cell holds what an unlisted place holds. -/
def Memory.wfFrom : Nat → Memory → Bool
  | _, [] => true
  | lo, (k, v) :: m => decide (lo ≤ k) && decide (v ≠ unlistedByte) && Memory.wfFrom (k + 1) m

/-- The canonical form. -/
def Memory.wf (m : Memory) : Bool := Memory.wfFrom 0 m

/-- Every listed place is below `size`. -/
def Memory.within (size : Nat) (m : Memory) : Bool := m.all fun cell => decide (cell.1 < size)

/-- The array that holds these bytes from place `k` on, in canonical form. -/
def Memory.ofBytes : Nat → List Byte → Memory
  | _, [] => []
  | k, v :: vs => if v = unlistedByte then Memory.ofBytes (k + 1) vs else (k, v) :: Memory.ofBytes (k + 1) vs

end Sys2Proof.Machine
end

