-- ==== Sys2Proof/Machine/Ops.lean ====
section
/-! DEFINITION. The named operations over registers, memory and the stack (00_scope.md R10 to R13; 20_memory.md; 43_load16_stack.md
R193), the end of an instruction, and taking a fault (60_exceptions.md R292). -/

namespace Sys2Proof.Machine

/-! ## Registers (R10, R21 to R27) -/

def Regs.get (r : Regs) : Reg8 → Byte
  | .A => r.a
  | .B => r.b
  | .C => r.c
  | .D => r.d
  | .E => r.e
  | .H => r.h
  | .L => r.l

def Regs.set (r : Regs) (x : Reg8) (v : Byte) : Regs :=
  match x with
  | .A => { r with a := v }
  | .B => { r with b := v }
  | .C => { r with c := v }
  | .D => { r with d := v }
  | .E => { r with e := v }
  | .H => { r with h := v }
  | .L => { r with l := v }

/-- `r[X]`. -/
def State.reg (s : State) (x : Reg8) : Byte := s.regs.get x

/-- `r[X] <- v`. -/
def State.setReg (s : State) (x : Reg8) (v : Byte) : State := { s with regs := s.regs.set x v }

/-- The high register of a pair (R22). -/
def pairHigh : Pair → Reg8
  | .BC => .B
  | .DE => .D
  | .HL => .H

/-- The low register of a pair (R22). -/
def pairLow : Pair → Reg8
  | .BC => .C
  | .DE => .E
  | .HL => .L

/-- `rp[P]` (R22): a view, high register in the high byte. -/
def State.pair (s : State) (p : Pair) : Word := joinBytes (s.reg (pairHigh p)) (s.reg (pairLow p))

/-- `rp[P] <- v` (R10). -/
def State.setPair (s : State) (p : Pair) (v : Word) : State :=
  (s.setReg (pairHigh p) (highByte v)).setReg (pairLow p) (lowByte v)

def State.setFlags (s : State) (f : Flags) : State := { s with flags := f }

def State.setPc (s : State) (v : Word) : State := { s with pc := v }

def State.setSp (s : State) (v : Word) : State := { s with sp := v }

def State.setRun (s : State) (r : RunState) : State := { s with run := r }

/-- A 16-bit register operand (R94, D23). -/
def State.reg16 (s : State) : Reg16 → Word
  | .BC => s.pair .BC
  | .DE => s.pair .DE
  | .HL => s.pair .HL
  | .SP => s.sp

def State.setReg16 (s : State) (x : Reg16) (v : Word) : State :=
  match x with
  | .BC => s.setPair .BC v
  | .DE => s.setPair .DE v
  | .HL => s.setPair .HL v
  | .SP => s.setSp v

/-! ## The bus (R50 to R63) -/

def inSpan (r : Span) (a : Nat) : Bool := decide (r.first ≤ a) && decide (a ≤ r.last)

def spanSize (r : Span) : Nat := r.last + 1 - r.first

/-- The last address of the boot overlay (R6, R52). -/
abbrev bootLast : Nat := 0x00FF

/-- Dispatch (R53): the region an address selects, BOOT first while it is active, none if unmapped. -/
def State.region (s : State) (a : Word) : Option Region :=
  if s.bootActive && decide (a.toNat ≤ bootLast) then some .boot
  else if inSpan s.cfg.regions.rom0 a.toNat then some .rom0
  else if inSpan s.cfg.regions.vram a.toNat then some .vram
  else if inSpan s.cfg.regions.wram a.toNat then some .wram
  else if inSpan s.cfg.regions.io a.toNat then some .io
  else if inSpan s.cfg.regions.hram a.toNat then some .hram
  else none

/-- The first address of a region (R52). -/
def State.regionFirst (s : State) : Region → Nat
  | .boot => 0
  | .rom0 => s.cfg.regions.rom0.first
  | .vram => s.cfg.regions.vram.first
  | .wram => s.cfg.regions.wram.first
  | .io => s.cfg.regions.io.first
  | .hram => s.cfg.regions.hram.first

/-- The place in a region's array that an address of it has (R52, "backing"). -/
def State.place (s : State) (rg : Region) (a : Word) : Nat := a.toNat - s.regionFirst rg

/-- A region's array; the I/O window has none (R60). -/
def State.array (s : State) : Region → Memory
  | .boot => s.boot
  | .rom0 => s.rom0
  | .vram => s.vram
  | .wram => s.wram
  | .io => []
  | .hram => s.hram

def State.setArray (s : State) (rg : Region) (m : Memory) : State :=
  match rg with
  | .boot => { s with boot := m }
  | .rom0 => { s with rom0 := m }
  | .vram => { s with vram := m }
  | .wram => { s with wram := m }
  | .io => s
  | .hram => { s with hram := m }

/-- The regions that store what is written (R56, R59). -/
def storesWrites : Region → Bool
  | .vram => true
  | .wram => true
  | .hram => true
  | .boot => false
  | .rom0 => false
  | .io => false

/-- `MemRead(a, 1)` (R55). A read changes no state. -/
def State.memRead (s : State) (a : Word) : Except Fault Byte :=
  match s.region a with
  | none => .error (.unmappedAccess a)
  | some .io => .ok 0x00
  | some .boot => .ok (Memory.get s.boot (s.place .boot a))
  | some .rom0 => .ok (Memory.get s.rom0 (s.place .rom0 a))
  | some .vram => .ok (Memory.get s.vram (s.place .vram a))
  | some .wram => .ok (Memory.get s.wram (s.place .wram a))
  | some .hram => .ok (Memory.get s.hram (s.place .hram a))

/-- The array of region `rg` with `v` at the place of address `a`. -/
def State.storeAt (s : State) (rg : Region) (a : Word) (v : Byte) : State :=
  s.setArray rg (Memory.set (s.array rg) (s.place rg a) v)

/-- `MemWrite(a, 1, v)` (R56): BOOT, ROM0 and IO drop the write (R57, R58, R60). -/
def State.memWrite (s : State) (a : Word) (v : Byte) : Except Fault State :=
  match s.region a with
  | none => .error (.unmappedAccess a)
  | some rg => if storesWrites rg then .ok (s.storeAt rg a v) else .ok s

/-- `MemRead(a, 2)` (R11): low byte first, then the high byte at the next address. -/
def State.memRead2 (s : State) (a : Word) : Except Fault Word :=
  match s.memRead a with
  | .error f => .error f
  | .ok lo =>
    match s.memRead (a + 1) with
    | .error f => .error f
    | .ok hi => .ok (joinBytes hi lo)

/-- `MemWrite(a, 2, v)` (R11): low byte first, then the high byte at the next address. -/
def State.memWrite2 (s : State) (a : Word) (v : Word) : Except Fault State :=
  match s.memWrite a (lowByte v) with
  | .error f => .error f
  | .ok s1 => s1.memWrite (a + 1) (highByte v)

/-- `Imm8()` (R11): the byte after the opcode byte; PC still holds the instruction's address. -/
def State.imm8 (s : State) : Except Fault Byte := s.memRead (s.pc + 1)

/-- `Imm16()` (R11). -/
def State.imm16 (s : State) : Except Fault Word := s.memRead2 (s.pc + 1)

/-- Put a byte into the array of the region that `a` selects, read-only or not: loading from outside, not a bus write. -/
def State.poke (s : State) (a : Word) (v : Byte) : State :=
  match s.region a with
  | none => s
  | some rg => s.storeAt rg a v

/-- Put bytes at `a`, `a+1`, … from outside. -/
def State.pokeBytes (s : State) (a : Word) : List Byte → State
  | [] => s
  | v :: vs => (s.poke a v).pokeBytes (a + 1) vs

/-! ## The stack (R193) -/

/-- `Push16(v)`: high byte to SP-1, then low byte to SP-2, then SP moves down by 2. -/
def State.push16 (s : State) (v : Word) : Except Fault State :=
  match s.memWrite (s.sp - 1) (highByte v) with
  | .error f => .error f
  | .ok s1 =>
    match s1.memWrite (s.sp - 2) (lowByte v) with
    | .error f => .error f
    | .ok s2 => .ok (s2.setSp (s.sp - 2))

/-- `Pop16()`: low byte from SP, then high byte from SP+1, then SP moves up by 2. -/
def State.pop16 (s : State) : Except Fault (Word × State) :=
  match s.memRead2 s.sp with
  | .error f => .error f
  | .ok v => .ok (v, s.setSp (s.sp + 2))

/-! ## The end of an instruction (R26, R251) -/

/-- Add the instruction's cost to the cycle counter, then `Advance` by it (R33, R251, R280). -/
def State.account (s : State) (cycles : Nat) : State :=
  { s with clk := (s.clk + cycles) % 2 ^ s.cfg.clkW, gpu := s.gpu.advance cycles }

/-- Advance PC past an instruction of `len` bytes and account for its cost (R26). -/
def State.retire (s : State) (len : Word) (cycles : Nat) : State := (s.setPc (s.pc + len)).account cycles

/-- Transfer control and account for the cost (R26). -/
def State.jump (s : State) (target : Word) (cycles : Nat) : State := (s.setPc target).account cycles

/-! ## Faults (R292) -/

/-- Go on with an access's value, or end in the fault it raised. -/
def onOk {α : Type} (x : Except Fault α) (k : α → Result) : Result :=
  match x with
  | .ok v => k v
  | .error f => .fault f

/-- Taking a fault (R292): every state element keeps the value it had before the step, and the fault latches. The machine is
then in its terminal state: `step` has no further next state (log 1). -/
def State.takeFault (s : State) (f : Fault) : Result := .next { s with fault := some f }

/-- What a step makes of the outcome of the instruction it ran in state `s`: a raised fault is taken in `s` itself. -/
def State.settle (s : State) (o : Result) : Result :=
  match o with
  | .next t => .next t
  | .fault f => s.takeFault f
  | .refused r => .refused r

/-- Fetch and decode (R251, R62): the byte at PC, and the byte after it if that is the prefix. -/
def State.fetchInstr (s : State) : Except Fault Instr :=
  match s.memRead s.pc with
  | .error f => .error f
  | .ok op =>
    if op = extendedByte then
      match s.memRead (s.pc + 1) with
      | .error f => .error f
      | .ok op2 => .ok (decodeExtended op2)
    else .ok (decodeBase op)

end Sys2Proof.Machine
end

