-- ==== Sys2Proof/Machine/Operands.lean ====
section
/-! DEFINITION. The operand forms: the second operand of the arithmetic kinds (40_alu8.md R120), the register or (HL) operand of
INC, DEC, BIT and the prefixed rotates (30_encoding.md R93; 45_bit_rotate.md R236), and the memory operands of the 8-bit
loads (42_load8.md R160). -/

namespace Sys2Proof.Machine

/-! ## Second operand of an arithmetic kind (R120) -/

def State.readSrc8 (s : State) : Src8 → Except Fault Byte
  | .reg r => .ok (s.reg r)
  | .indHL => s.memRead (s.pair .HL)
  | .d8 => s.imm8

def src8Length : Src8 → Word
  | .reg _ => 1
  | .indHL => 1
  | .d8 => 2

def src8Cycles (cyc : CycleTable) : Src8 → Nat
  | .reg _ => cyc.aluR
  | .indHL => cyc.aluHl
  | .d8 => cyc.aluD8

/-! ## Register or (HL) (R93, R236) -/

def State.readLoc8 (s : State) : Loc8 → Except Fault Byte
  | .reg r => .ok (s.reg r)
  | .indHL => s.memRead (s.pair .HL)

def State.writeLoc8 (s : State) (x : Loc8) (v : Byte) : Except Fault State :=
  match x with
  | .reg r => .ok (s.setReg r v)
  | .indHL => s.memWrite (s.pair .HL) v

/-- A cost that depends on whether the operand is a register or (HL). -/
def loc8Cycles (onReg onHl : Nat) : Loc8 → Nat
  | .reg _ => onReg
  | .indHL => onHl

/-! ## Memory operands of the 8-bit loads (R160) -/

/-- (BC), (DE), (HL), (HL+), (HL-), (C), (a8), (a16). -/
inductive MemOperand where
  | indBC | indDE | indHL | indHLinc | indHLdec | indC | inda8 | inda16
  deriving DecidableEq, Repr

/-- The offset window's address `0xFF00 + offset`: no carry is possible (R98, R174 to R177). -/
def windowAddr (offset : Byte) : Word := joinBytes 0xFF offset

/-- The effective address; the (a8) and (a16) forms read their immediate here. -/
def State.effAddr (s : State) : MemOperand → Except Fault Word
  | .indBC => .ok (s.pair .BC)
  | .indDE => .ok (s.pair .DE)
  | .indHL => .ok (s.pair .HL)
  | .indHLinc => .ok (s.pair .HL)
  | .indHLdec => .ok (s.pair .HL)
  | .indC => .ok (windowAddr (s.reg .C))
  | .inda8 =>
    match s.imm8 with
    | .error f => .error f
    | .ok a8 => .ok (windowAddr a8)
  | .inda16 => s.imm16

/-- The length of a load with this operand and A or a register as the other. -/
def memOperandLength : MemOperand → Word
  | .indBC => 1
  | .indDE => 1
  | .indHL => 1
  | .indHLinc => 1
  | .indHLdec => 1
  | .indC => 1
  | .inda8 => 2
  | .inda16 => 3

/-- The post-effect on HL, applied after the access to `addr` (R170 to R173). -/
def State.postEffect (s : State) (m : MemOperand) (addr : Word) : State :=
  match m with
  | .indHLinc => s.setPair .HL (addr + 1)
  | .indHLdec => s.setPair .HL (addr - 1)
  | .indBC => s
  | .indDE => s
  | .indHL => s
  | .indC => s
  | .inda8 => s
  | .inda16 => s

end Sys2Proof.Machine
end

