-- ==== Sys2Proof/Machine/Alu8.lean ====
section
/-! DEFINITION. ADD, ADC, SUB, SBC, AND, XOR, OR, CP on A and a register, (HL) or an immediate byte (40_alu8.md R120 to R129). -/

namespace Sys2Proof.Machine

/-- The result and the flags of an arithmetic kind on A's value `a` and the operand `v` (R121 to R128). -/
def aluResult (op : AluOp) (a v : Byte) (cin : Bool) : ByteResult :=
  match op with
  | .add => addBytes a v false
  | .adc => addBytes a v cin
  | .sub => subBytes a v false
  | .sbc => subBytes a v cin
  | .and => andBytes a v
  | .xor => xorBytes a v
  | .or => orBytes a v
  | .cp => subBytes a v false

/-- What an arithmetic kind writes: A and the flags, but CP the flags only (R128). -/
def State.aluWrite (s : State) (op : AluOp) (r : ByteResult) : State :=
  match op with
  | .cp => s.setFlags r.flags
  | .add => (s.setReg .A r.value).setFlags r.flags
  | .adc => (s.setReg .A r.value).setFlags r.flags
  | .sub => (s.setReg .A r.value).setFlags r.flags
  | .sbc => (s.setReg .A r.value).setFlags r.flags
  | .and => (s.setReg .A r.value).setFlags r.flags
  | .xor => (s.setReg .A r.value).setFlags r.flags
  | .or => (s.setReg .A r.value).setFlags r.flags

/-- R120: the operand is read first, then the result and the flags are written, then PC advances. -/
def aluInstr (op : AluOp) (x : Src8) (s : State) : Result :=
  onOk (s.readSrc8 x) fun v =>
    .next ((s.aluWrite op (aluResult op (s.reg .A) v s.flags.c)).retire (src8Length x) (src8Cycles s.cfg.cyc x))

/-- 0x80: ADD A,B (R121). -/
def execAdd_A_B (s : State) : Result := aluInstr .add (.reg .B) s

/-- 0x81: ADD A,C (R121). -/
def execAdd_A_C (s : State) : Result := aluInstr .add (.reg .C) s

/-- 0x82: ADD A,D (R121). -/
def execAdd_A_D (s : State) : Result := aluInstr .add (.reg .D) s

/-- 0x83: ADD A,E (R121). -/
def execAdd_A_E (s : State) : Result := aluInstr .add (.reg .E) s

/-- 0x84: ADD A,H (R121). -/
def execAdd_A_H (s : State) : Result := aluInstr .add (.reg .H) s

/-- 0x85: ADD A,L (R121). -/
def execAdd_A_L (s : State) : Result := aluInstr .add (.reg .L) s

/-- 0x86: ADD A,(HL) (R121). -/
def execAdd_A_indHL (s : State) : Result := aluInstr .add .indHL s

/-- 0x87: ADD A,A (R121). -/
def execAdd_A_A (s : State) : Result := aluInstr .add (.reg .A) s

/-- 0x88: ADC A,B (R122). -/
def execAdc_A_B (s : State) : Result := aluInstr .adc (.reg .B) s

/-- 0x89: ADC A,C (R122). -/
def execAdc_A_C (s : State) : Result := aluInstr .adc (.reg .C) s

/-- 0x8A: ADC A,D (R122). -/
def execAdc_A_D (s : State) : Result := aluInstr .adc (.reg .D) s

/-- 0x8B: ADC A,E (R122). -/
def execAdc_A_E (s : State) : Result := aluInstr .adc (.reg .E) s

/-- 0x8C: ADC A,H (R122). -/
def execAdc_A_H (s : State) : Result := aluInstr .adc (.reg .H) s

/-- 0x8D: ADC A,L (R122). -/
def execAdc_A_L (s : State) : Result := aluInstr .adc (.reg .L) s

/-- 0x8E: ADC A,(HL) (R122). -/
def execAdc_A_indHL (s : State) : Result := aluInstr .adc .indHL s

/-- 0x8F: ADC A,A (R122). -/
def execAdc_A_A (s : State) : Result := aluInstr .adc (.reg .A) s

/-- 0x90: SUB A,B (R123). -/
def execSub_A_B (s : State) : Result := aluInstr .sub (.reg .B) s

/-- 0x91: SUB A,C (R123). -/
def execSub_A_C (s : State) : Result := aluInstr .sub (.reg .C) s

/-- 0x92: SUB A,D (R123). -/
def execSub_A_D (s : State) : Result := aluInstr .sub (.reg .D) s

/-- 0x93: SUB A,E (R123). -/
def execSub_A_E (s : State) : Result := aluInstr .sub (.reg .E) s

/-- 0x94: SUB A,H (R123). -/
def execSub_A_H (s : State) : Result := aluInstr .sub (.reg .H) s

/-- 0x95: SUB A,L (R123). -/
def execSub_A_L (s : State) : Result := aluInstr .sub (.reg .L) s

/-- 0x96: SUB A,(HL) (R123). -/
def execSub_A_indHL (s : State) : Result := aluInstr .sub .indHL s

/-- 0x97: SUB A,A (R123). -/
def execSub_A_A (s : State) : Result := aluInstr .sub (.reg .A) s

/-- 0x98: SBC A,B (R124). -/
def execSbc_A_B (s : State) : Result := aluInstr .sbc (.reg .B) s

/-- 0x99: SBC A,C (R124). -/
def execSbc_A_C (s : State) : Result := aluInstr .sbc (.reg .C) s

/-- 0x9A: SBC A,D (R124). -/
def execSbc_A_D (s : State) : Result := aluInstr .sbc (.reg .D) s

/-- 0x9B: SBC A,E (R124). -/
def execSbc_A_E (s : State) : Result := aluInstr .sbc (.reg .E) s

/-- 0x9C: SBC A,H (R124). -/
def execSbc_A_H (s : State) : Result := aluInstr .sbc (.reg .H) s

/-- 0x9D: SBC A,L (R124). -/
def execSbc_A_L (s : State) : Result := aluInstr .sbc (.reg .L) s

/-- 0x9E: SBC A,(HL) (R124). -/
def execSbc_A_indHL (s : State) : Result := aluInstr .sbc .indHL s

/-- 0x9F: SBC A,A (R124). -/
def execSbc_A_A (s : State) : Result := aluInstr .sbc (.reg .A) s

/-- 0xA0: AND A,B (R125). -/
def execAnd_A_B (s : State) : Result := aluInstr .and (.reg .B) s

/-- 0xA1: AND A,C (R125). -/
def execAnd_A_C (s : State) : Result := aluInstr .and (.reg .C) s

/-- 0xA2: AND A,D (R125). -/
def execAnd_A_D (s : State) : Result := aluInstr .and (.reg .D) s

/-- 0xA3: AND A,E (R125). -/
def execAnd_A_E (s : State) : Result := aluInstr .and (.reg .E) s

/-- 0xA4: AND A,H (R125). -/
def execAnd_A_H (s : State) : Result := aluInstr .and (.reg .H) s

/-- 0xA5: AND A,L (R125). -/
def execAnd_A_L (s : State) : Result := aluInstr .and (.reg .L) s

/-- 0xA6: AND A,(HL) (R125). -/
def execAnd_A_indHL (s : State) : Result := aluInstr .and .indHL s

/-- 0xA7: AND A,A (R125). -/
def execAnd_A_A (s : State) : Result := aluInstr .and (.reg .A) s

/-- 0xA8: XOR A,B (R126). -/
def execXor_A_B (s : State) : Result := aluInstr .xor (.reg .B) s

/-- 0xA9: XOR A,C (R126). -/
def execXor_A_C (s : State) : Result := aluInstr .xor (.reg .C) s

/-- 0xAA: XOR A,D (R126). -/
def execXor_A_D (s : State) : Result := aluInstr .xor (.reg .D) s

/-- 0xAB: XOR A,E (R126). -/
def execXor_A_E (s : State) : Result := aluInstr .xor (.reg .E) s

/-- 0xAC: XOR A,H (R126). -/
def execXor_A_H (s : State) : Result := aluInstr .xor (.reg .H) s

/-- 0xAD: XOR A,L (R126). -/
def execXor_A_L (s : State) : Result := aluInstr .xor (.reg .L) s

/-- 0xAE: XOR A,(HL) (R126). -/
def execXor_A_indHL (s : State) : Result := aluInstr .xor .indHL s

/-- 0xAF: XOR A,A (R126). -/
def execXor_A_A (s : State) : Result := aluInstr .xor (.reg .A) s

/-- 0xB0: OR A,B (R127). -/
def execOr_A_B (s : State) : Result := aluInstr .or (.reg .B) s

/-- 0xB1: OR A,C (R127). -/
def execOr_A_C (s : State) : Result := aluInstr .or (.reg .C) s

/-- 0xB2: OR A,D (R127). -/
def execOr_A_D (s : State) : Result := aluInstr .or (.reg .D) s

/-- 0xB3: OR A,E (R127). -/
def execOr_A_E (s : State) : Result := aluInstr .or (.reg .E) s

/-- 0xB4: OR A,H (R127). -/
def execOr_A_H (s : State) : Result := aluInstr .or (.reg .H) s

/-- 0xB5: OR A,L (R127). -/
def execOr_A_L (s : State) : Result := aluInstr .or (.reg .L) s

/-- 0xB6: OR A,(HL) (R127). -/
def execOr_A_indHL (s : State) : Result := aluInstr .or .indHL s

/-- 0xB7: OR A,A (R127). -/
def execOr_A_A (s : State) : Result := aluInstr .or (.reg .A) s

/-- 0xB8: CP A,B (R128). -/
def execCp_A_B (s : State) : Result := aluInstr .cp (.reg .B) s

/-- 0xB9: CP A,C (R128). -/
def execCp_A_C (s : State) : Result := aluInstr .cp (.reg .C) s

/-- 0xBA: CP A,D (R128). -/
def execCp_A_D (s : State) : Result := aluInstr .cp (.reg .D) s

/-- 0xBB: CP A,E (R128). -/
def execCp_A_E (s : State) : Result := aluInstr .cp (.reg .E) s

/-- 0xBC: CP A,H (R128). -/
def execCp_A_H (s : State) : Result := aluInstr .cp (.reg .H) s

/-- 0xBD: CP A,L (R128). -/
def execCp_A_L (s : State) : Result := aluInstr .cp (.reg .L) s

/-- 0xBE: CP A,(HL) (R128). -/
def execCp_A_indHL (s : State) : Result := aluInstr .cp .indHL s

/-- 0xBF: CP A,A (R128). -/
def execCp_A_A (s : State) : Result := aluInstr .cp (.reg .A) s

/-- 0xC6: ADD A,d8 (R121). -/
def execAdd_A_d8 (s : State) : Result := aluInstr .add .d8 s

/-- 0xCE: ADC A,d8 (R122). -/
def execAdc_A_d8 (s : State) : Result := aluInstr .adc .d8 s

/-- 0xD6: SUB A,d8 (R123). -/
def execSub_A_d8 (s : State) : Result := aluInstr .sub .d8 s

/-- 0xDE: SBC A,d8 (R124). -/
def execSbc_A_d8 (s : State) : Result := aluInstr .sbc .d8 s

/-- 0xE6: AND A,d8 (R125). -/
def execAnd_A_d8 (s : State) : Result := aluInstr .and .d8 s

/-- 0xEE: XOR A,d8 (R126). -/
def execXor_A_d8 (s : State) : Result := aluInstr .xor .d8 s

/-- 0xF6: OR A,d8 (R127). -/
def execOr_A_d8 (s : State) : Result := aluInstr .or .d8 s

/-- 0xFE: CP A,d8 (R128). -/
def execCp_A_d8 (s : State) : Result := aluInstr .cp .d8 s

end Sys2Proof.Machine
end

