-- ==== Sys2Proof/Machine/BitRotate.lean ====
section
/-! DEFINITION. RLCA, RLA, RRCA, RRA; RLC, RL, RRC, RR; BIT (45_bit_rotate.md R230 to R241). -/

namespace Sys2Proof.Machine

/-- The accumulator rotates (R232 to R235): z, n and h are cleared whatever the result is. -/
def rotAcc (dir : RotDir) (variant : RotVariant) (s : State) : Result :=
  let r := rotate (s.reg .A) dir variant s.flags.c
  .next (((s.setReg .A r.1).setFlags ⟨false, false, false, r.2⟩).retire 1 s.cfg.cyc.rotA)

/-- The prefixed rotates (R236 to R240): read, write back, flags. -/
def rotInstr (k : RotOp) (x : Loc8) (s : State) : Result :=
  onOk (s.readLoc8 x) fun v =>
    onOk (s.writeLoc8 x (rotByte k v s.flags.c).value) fun t =>
      .next ((t.setFlags (rotByte k v s.flags.c).flags).retire 2 (loc8Cycles s.cfg.cyc.cbRotR s.cfg.cyc.cbRotHl x))

/-- BIT b,x (R241): reads x, writes flags only. -/
def bitInstr (b : Fin 8) (x : Loc8) (s : State) : Result :=
  onOk (s.readLoc8 x) fun v =>
    .next ((s.setFlags (bitFlags b v s.flags)).retire 2 (loc8Cycles s.cfg.cyc.cbBitR s.cfg.cyc.cbBitHl x))

/-- 0x07: RLCA (R232). -/
def execRlca (s : State) : Result := rotAcc .left .wrap s

/-- 0x0F: RRCA (R234). -/
def execRrca (s : State) : Result := rotAcc .right .wrap s

/-- 0x17: RLA (R233). -/
def execRla (s : State) : Result := rotAcc .left .through s

/-- 0x1F: RRA (R235). -/
def execRra (s : State) : Result := rotAcc .right .through s

/-- 0xCB 0x00: RLC B (R237). -/
def execRlc_B (s : State) : Result := rotInstr .rlc (.reg .B) s

/-- 0xCB 0x01: RLC C (R237). -/
def execRlc_C (s : State) : Result := rotInstr .rlc (.reg .C) s

/-- 0xCB 0x02: RLC D (R237). -/
def execRlc_D (s : State) : Result := rotInstr .rlc (.reg .D) s

/-- 0xCB 0x03: RLC E (R237). -/
def execRlc_E (s : State) : Result := rotInstr .rlc (.reg .E) s

/-- 0xCB 0x04: RLC H (R237). -/
def execRlc_H (s : State) : Result := rotInstr .rlc (.reg .H) s

/-- 0xCB 0x05: RLC L (R237). -/
def execRlc_L (s : State) : Result := rotInstr .rlc (.reg .L) s

/-- 0xCB 0x06: RLC (HL) (R237). -/
def execRlc_indHL (s : State) : Result := rotInstr .rlc .indHL s

/-- 0xCB 0x07: RLC A (R237). -/
def execRlc_A (s : State) : Result := rotInstr .rlc (.reg .A) s

/-- 0xCB 0x08: RRC B (R239). -/
def execRrc_B (s : State) : Result := rotInstr .rrc (.reg .B) s

/-- 0xCB 0x09: RRC C (R239). -/
def execRrc_C (s : State) : Result := rotInstr .rrc (.reg .C) s

/-- 0xCB 0x0A: RRC D (R239). -/
def execRrc_D (s : State) : Result := rotInstr .rrc (.reg .D) s

/-- 0xCB 0x0B: RRC E (R239). -/
def execRrc_E (s : State) : Result := rotInstr .rrc (.reg .E) s

/-- 0xCB 0x0C: RRC H (R239). -/
def execRrc_H (s : State) : Result := rotInstr .rrc (.reg .H) s

/-- 0xCB 0x0D: RRC L (R239). -/
def execRrc_L (s : State) : Result := rotInstr .rrc (.reg .L) s

/-- 0xCB 0x0E: RRC (HL) (R239). -/
def execRrc_indHL (s : State) : Result := rotInstr .rrc .indHL s

/-- 0xCB 0x0F: RRC A (R239). -/
def execRrc_A (s : State) : Result := rotInstr .rrc (.reg .A) s

/-- 0xCB 0x10: RL B (R238). -/
def execRl_B (s : State) : Result := rotInstr .rl (.reg .B) s

/-- 0xCB 0x11: RL C (R238). -/
def execRl_C (s : State) : Result := rotInstr .rl (.reg .C) s

/-- 0xCB 0x12: RL D (R238). -/
def execRl_D (s : State) : Result := rotInstr .rl (.reg .D) s

/-- 0xCB 0x13: RL E (R238). -/
def execRl_E (s : State) : Result := rotInstr .rl (.reg .E) s

/-- 0xCB 0x14: RL H (R238). -/
def execRl_H (s : State) : Result := rotInstr .rl (.reg .H) s

/-- 0xCB 0x15: RL L (R238). -/
def execRl_L (s : State) : Result := rotInstr .rl (.reg .L) s

/-- 0xCB 0x16: RL (HL) (R238). -/
def execRl_indHL (s : State) : Result := rotInstr .rl .indHL s

/-- 0xCB 0x17: RL A (R238). -/
def execRl_A (s : State) : Result := rotInstr .rl (.reg .A) s

/-- 0xCB 0x18: RR B (R240). -/
def execRr_B (s : State) : Result := rotInstr .rr (.reg .B) s

/-- 0xCB 0x19: RR C (R240). -/
def execRr_C (s : State) : Result := rotInstr .rr (.reg .C) s

/-- 0xCB 0x1A: RR D (R240). -/
def execRr_D (s : State) : Result := rotInstr .rr (.reg .D) s

/-- 0xCB 0x1B: RR E (R240). -/
def execRr_E (s : State) : Result := rotInstr .rr (.reg .E) s

/-- 0xCB 0x1C: RR H (R240). -/
def execRr_H (s : State) : Result := rotInstr .rr (.reg .H) s

/-- 0xCB 0x1D: RR L (R240). -/
def execRr_L (s : State) : Result := rotInstr .rr (.reg .L) s

/-- 0xCB 0x1E: RR (HL) (R240). -/
def execRr_indHL (s : State) : Result := rotInstr .rr .indHL s

/-- 0xCB 0x1F: RR A (R240). -/
def execRr_A (s : State) : Result := rotInstr .rr (.reg .A) s

/-- 0xCB 0x40: BIT 0,B (R241). -/
def execBit_0_B (s : State) : Result := bitInstr 0 (.reg .B) s

/-- 0xCB 0x41: BIT 0,C (R241). -/
def execBit_0_C (s : State) : Result := bitInstr 0 (.reg .C) s

/-- 0xCB 0x42: BIT 0,D (R241). -/
def execBit_0_D (s : State) : Result := bitInstr 0 (.reg .D) s

/-- 0xCB 0x43: BIT 0,E (R241). -/
def execBit_0_E (s : State) : Result := bitInstr 0 (.reg .E) s

/-- 0xCB 0x44: BIT 0,H (R241). -/
def execBit_0_H (s : State) : Result := bitInstr 0 (.reg .H) s

/-- 0xCB 0x45: BIT 0,L (R241). -/
def execBit_0_L (s : State) : Result := bitInstr 0 (.reg .L) s

/-- 0xCB 0x46: BIT 0,(HL) (R241). -/
def execBit_0_indHL (s : State) : Result := bitInstr 0 .indHL s

/-- 0xCB 0x47: BIT 0,A (R241). -/
def execBit_0_A (s : State) : Result := bitInstr 0 (.reg .A) s

/-- 0xCB 0x48: BIT 1,B (R241). -/
def execBit_1_B (s : State) : Result := bitInstr 1 (.reg .B) s

/-- 0xCB 0x49: BIT 1,C (R241). -/
def execBit_1_C (s : State) : Result := bitInstr 1 (.reg .C) s

/-- 0xCB 0x4A: BIT 1,D (R241). -/
def execBit_1_D (s : State) : Result := bitInstr 1 (.reg .D) s

/-- 0xCB 0x4B: BIT 1,E (R241). -/
def execBit_1_E (s : State) : Result := bitInstr 1 (.reg .E) s

/-- 0xCB 0x4C: BIT 1,H (R241). -/
def execBit_1_H (s : State) : Result := bitInstr 1 (.reg .H) s

/-- 0xCB 0x4D: BIT 1,L (R241). -/
def execBit_1_L (s : State) : Result := bitInstr 1 (.reg .L) s

/-- 0xCB 0x4E: BIT 1,(HL) (R241). -/
def execBit_1_indHL (s : State) : Result := bitInstr 1 .indHL s

/-- 0xCB 0x4F: BIT 1,A (R241). -/
def execBit_1_A (s : State) : Result := bitInstr 1 (.reg .A) s

/-- 0xCB 0x50: BIT 2,B (R241). -/
def execBit_2_B (s : State) : Result := bitInstr 2 (.reg .B) s

/-- 0xCB 0x51: BIT 2,C (R241). -/
def execBit_2_C (s : State) : Result := bitInstr 2 (.reg .C) s

/-- 0xCB 0x52: BIT 2,D (R241). -/
def execBit_2_D (s : State) : Result := bitInstr 2 (.reg .D) s

/-- 0xCB 0x53: BIT 2,E (R241). -/
def execBit_2_E (s : State) : Result := bitInstr 2 (.reg .E) s

/-- 0xCB 0x54: BIT 2,H (R241). -/
def execBit_2_H (s : State) : Result := bitInstr 2 (.reg .H) s

/-- 0xCB 0x55: BIT 2,L (R241). -/
def execBit_2_L (s : State) : Result := bitInstr 2 (.reg .L) s

/-- 0xCB 0x56: BIT 2,(HL) (R241). -/
def execBit_2_indHL (s : State) : Result := bitInstr 2 .indHL s

/-- 0xCB 0x57: BIT 2,A (R241). -/
def execBit_2_A (s : State) : Result := bitInstr 2 (.reg .A) s

/-- 0xCB 0x58: BIT 3,B (R241). -/
def execBit_3_B (s : State) : Result := bitInstr 3 (.reg .B) s

/-- 0xCB 0x59: BIT 3,C (R241). -/
def execBit_3_C (s : State) : Result := bitInstr 3 (.reg .C) s

/-- 0xCB 0x5A: BIT 3,D (R241). -/
def execBit_3_D (s : State) : Result := bitInstr 3 (.reg .D) s

/-- 0xCB 0x5B: BIT 3,E (R241). -/
def execBit_3_E (s : State) : Result := bitInstr 3 (.reg .E) s

/-- 0xCB 0x5C: BIT 3,H (R241). -/
def execBit_3_H (s : State) : Result := bitInstr 3 (.reg .H) s

/-- 0xCB 0x5D: BIT 3,L (R241). -/
def execBit_3_L (s : State) : Result := bitInstr 3 (.reg .L) s

/-- 0xCB 0x5E: BIT 3,(HL) (R241). -/
def execBit_3_indHL (s : State) : Result := bitInstr 3 .indHL s

/-- 0xCB 0x5F: BIT 3,A (R241). -/
def execBit_3_A (s : State) : Result := bitInstr 3 (.reg .A) s

/-- 0xCB 0x60: BIT 4,B (R241). -/
def execBit_4_B (s : State) : Result := bitInstr 4 (.reg .B) s

/-- 0xCB 0x61: BIT 4,C (R241). -/
def execBit_4_C (s : State) : Result := bitInstr 4 (.reg .C) s

/-- 0xCB 0x62: BIT 4,D (R241). -/
def execBit_4_D (s : State) : Result := bitInstr 4 (.reg .D) s

/-- 0xCB 0x63: BIT 4,E (R241). -/
def execBit_4_E (s : State) : Result := bitInstr 4 (.reg .E) s

/-- 0xCB 0x64: BIT 4,H (R241). -/
def execBit_4_H (s : State) : Result := bitInstr 4 (.reg .H) s

/-- 0xCB 0x65: BIT 4,L (R241). -/
def execBit_4_L (s : State) : Result := bitInstr 4 (.reg .L) s

/-- 0xCB 0x66: BIT 4,(HL) (R241). -/
def execBit_4_indHL (s : State) : Result := bitInstr 4 .indHL s

/-- 0xCB 0x67: BIT 4,A (R241). -/
def execBit_4_A (s : State) : Result := bitInstr 4 (.reg .A) s

/-- 0xCB 0x68: BIT 5,B (R241). -/
def execBit_5_B (s : State) : Result := bitInstr 5 (.reg .B) s

/-- 0xCB 0x69: BIT 5,C (R241). -/
def execBit_5_C (s : State) : Result := bitInstr 5 (.reg .C) s

/-- 0xCB 0x6A: BIT 5,D (R241). -/
def execBit_5_D (s : State) : Result := bitInstr 5 (.reg .D) s

/-- 0xCB 0x6B: BIT 5,E (R241). -/
def execBit_5_E (s : State) : Result := bitInstr 5 (.reg .E) s

/-- 0xCB 0x6C: BIT 5,H (R241). -/
def execBit_5_H (s : State) : Result := bitInstr 5 (.reg .H) s

/-- 0xCB 0x6D: BIT 5,L (R241). -/
def execBit_5_L (s : State) : Result := bitInstr 5 (.reg .L) s

/-- 0xCB 0x6E: BIT 5,(HL) (R241). -/
def execBit_5_indHL (s : State) : Result := bitInstr 5 .indHL s

/-- 0xCB 0x6F: BIT 5,A (R241). -/
def execBit_5_A (s : State) : Result := bitInstr 5 (.reg .A) s

/-- 0xCB 0x70: BIT 6,B (R241). -/
def execBit_6_B (s : State) : Result := bitInstr 6 (.reg .B) s

/-- 0xCB 0x71: BIT 6,C (R241). -/
def execBit_6_C (s : State) : Result := bitInstr 6 (.reg .C) s

/-- 0xCB 0x72: BIT 6,D (R241). -/
def execBit_6_D (s : State) : Result := bitInstr 6 (.reg .D) s

/-- 0xCB 0x73: BIT 6,E (R241). -/
def execBit_6_E (s : State) : Result := bitInstr 6 (.reg .E) s

/-- 0xCB 0x74: BIT 6,H (R241). -/
def execBit_6_H (s : State) : Result := bitInstr 6 (.reg .H) s

/-- 0xCB 0x75: BIT 6,L (R241). -/
def execBit_6_L (s : State) : Result := bitInstr 6 (.reg .L) s

/-- 0xCB 0x76: BIT 6,(HL) (R241). -/
def execBit_6_indHL (s : State) : Result := bitInstr 6 .indHL s

/-- 0xCB 0x77: BIT 6,A (R241). -/
def execBit_6_A (s : State) : Result := bitInstr 6 (.reg .A) s

/-- 0xCB 0x78: BIT 7,B (R241). -/
def execBit_7_B (s : State) : Result := bitInstr 7 (.reg .B) s

/-- 0xCB 0x79: BIT 7,C (R241). -/
def execBit_7_C (s : State) : Result := bitInstr 7 (.reg .C) s

/-- 0xCB 0x7A: BIT 7,D (R241). -/
def execBit_7_D (s : State) : Result := bitInstr 7 (.reg .D) s

/-- 0xCB 0x7B: BIT 7,E (R241). -/
def execBit_7_E (s : State) : Result := bitInstr 7 (.reg .E) s

/-- 0xCB 0x7C: BIT 7,H (R241). -/
def execBit_7_H (s : State) : Result := bitInstr 7 (.reg .H) s

/-- 0xCB 0x7D: BIT 7,L (R241). -/
def execBit_7_L (s : State) : Result := bitInstr 7 (.reg .L) s

/-- 0xCB 0x7E: BIT 7,(HL) (R241). -/
def execBit_7_indHL (s : State) : Result := bitInstr 7 .indHL s

/-- 0xCB 0x7F: BIT 7,A (R241). -/
def execBit_7_A (s : State) : Result := bitInstr 7 (.reg .A) s

end Sys2Proof.Machine
end

