-- ==== Sys2Proof/Machine/Control.lean ====
section
/-! DEFINITION. JP, JR, CALL, RET (44_control.md R210 to R220). A conditional transfer whose condition is false reads no
immediate and no stack byte (D16). -/

namespace Sys2Proof.Machine

/-- JP a16 (R211). The target is not checked. -/
def jumpAbs (s : State) : Result := onOk s.imm16 fun target => .next (s.jump target s.cfg.cyc.jpTaken)

/-- JP cc,a16 (R212). -/
def jumpAbsIf (cc : Cond) (s : State) : Result :=
  if s.flags.holds cc then jumpAbs s else .next (s.retire 3 s.cfg.cyc.jpNotTaken)

/-- The target of a relative jump (R214): the address after the two-byte instruction plus the signed displacement. -/
def relTarget (pc : Word) (e : Byte) : Word := pc + 2 + e.signExtend 16

/-- JR e8 (R214). -/
def jumpRel (s : State) : Result := onOk s.imm8 fun e => .next (s.jump (relTarget s.pc e) s.cfg.cyc.jrTaken)

/-- JR cc,e8 (R215). -/
def jumpRelIf (cc : Cond) (s : State) : Result :=
  if s.flags.holds cc then jumpRel s else .next (s.retire 2 s.cfg.cyc.jrNotTaken)

/-- CALL a16 (R216): the return address is that of the byte after the three-byte instruction. -/
def callAbs (s : State) : Result :=
  onOk s.imm16 fun target => onOk (s.push16 (s.pc + 3)) fun t => .next (t.jump target s.cfg.cyc.callTaken)

/-- CALL cc,a16 (R217). -/
def callAbsIf (cc : Cond) (s : State) : Result :=
  if s.flags.holds cc then callAbs s else .next (s.retire 3 s.cfg.cyc.callNotTaken)

/-- The popped word becomes PC (R218). -/
def returnTo (cycles : Nat) (s : State) : Result := onOk s.pop16 fun (v, t) => .next (t.jump v cycles)

/-- RET cc (R219): one byte further when the condition is false. -/
def returnIf (cc : Cond) (s : State) : Result :=
  if s.flags.holds cc then returnTo s.cfg.cyc.retCcTaken s else .next (s.retire 1 s.cfg.cyc.retCcNotTaken)

/-- 0x18: JR e8 (R214). -/
def execJr_e8 (s : State) : Result := jumpRel s

/-- 0x20: JR NZ,e8 (R215). -/
def execJr_NZ_e8 (s : State) : Result := jumpRelIf .NZ s

/-- 0x28: JR Z,e8 (R215). -/
def execJr_Z_e8 (s : State) : Result := jumpRelIf .Z s

/-- 0x30: JR NC,e8 (R215). -/
def execJr_NC_e8 (s : State) : Result := jumpRelIf .NC s

/-- 0x38: JR C,e8 (R215). -/
def execJr_C_e8 (s : State) : Result := jumpRelIf .C s

/-- 0xC0: RET NZ (R219). -/
def execRet_NZ (s : State) : Result := returnIf .NZ s

/-- 0xC2: JP NZ,a16 (R212). -/
def execJp_NZ_a16 (s : State) : Result := jumpAbsIf .NZ s

/-- 0xC3: JP a16 (R211). -/
def execJp_a16 (s : State) : Result := jumpAbs s

/-- 0xC4: CALL NZ,a16 (R217). -/
def execCall_NZ_a16 (s : State) : Result := callAbsIf .NZ s

/-- 0xC8: RET Z (R219). -/
def execRet_Z (s : State) : Result := returnIf .Z s

/-- 0xC9: RET (R218). -/
def execRet (s : State) : Result := returnTo s.cfg.cyc.ret s

/-- 0xCA: JP Z,a16 (R212). -/
def execJp_Z_a16 (s : State) : Result := jumpAbsIf .Z s

/-- 0xCC: CALL Z,a16 (R217). -/
def execCall_Z_a16 (s : State) : Result := callAbsIf .Z s

/-- 0xCD: CALL a16 (R216). -/
def execCall_a16 (s : State) : Result := callAbs s

/-- 0xD0: RET NC (R219). -/
def execRet_NC (s : State) : Result := returnIf .NC s

/-- 0xD2: JP NC,a16 (R212). -/
def execJp_NC_a16 (s : State) : Result := jumpAbsIf .NC s

/-- 0xD4: CALL NC,a16 (R217). -/
def execCall_NC_a16 (s : State) : Result := callAbsIf .NC s

/-- 0xD8: RET C (R219). -/
def execRet_C (s : State) : Result := returnIf .C s

/-- 0xDA: JP C,a16 (R212). -/
def execJp_C_a16 (s : State) : Result := jumpAbsIf .C s

/-- 0xDC: CALL C,a16 (R217). -/
def execCall_C_a16 (s : State) : Result := callAbsIf .C s

/-- 0xE9: JP HL (R213). -/
def execJp_HL (s : State) : Result := .next (s.jump (s.pair .HL) s.cfg.cyc.jpHl)

end Sys2Proof.Machine
end

