-- ==== Sys2Proof/Machine/IncDec.lean ====
section
/-! DEFINITION. INC and DEC of a byte and of a 16-bit register, and ADD HL,rr (41_incdec_add16.md R140 to R147). -/

namespace Sys2Proof.Machine

/-- INC r and INC (HL) (R140, R141): read, write back, flags. -/
def incInstr (x : Loc8) (s : State) : Result :=
  onOk (s.readLoc8 x) fun old =>
    onOk (s.writeLoc8 x (incByte old s.flags).value) fun t =>
      .next ((t.setFlags (incByte old s.flags).flags).retire 1 (loc8Cycles s.cfg.cyc.incdecR s.cfg.cyc.incdecHl x))

/-- DEC r and DEC (HL) (R142, R143). -/
def decInstr (x : Loc8) (s : State) : Result :=
  onOk (s.readLoc8 x) fun old =>
    onOk (s.writeLoc8 x (decByte old s.flags).value) fun t =>
      .next ((t.setFlags (decByte old s.flags).flags).retire 1 (loc8Cycles s.cfg.cyc.incdecR s.cfg.cyc.incdecHl x))

/-- INC rr (R144): no flag. -/
def inc16Instr (x : Reg16) (s : State) : Result :=
  .next ((s.setReg16 x (s.reg16 x + 1)).retire 1 s.cfg.cyc.incdecRr)

/-- DEC rr (R145): no flag. -/
def dec16Instr (x : Reg16) (s : State) : Result :=
  .next ((s.setReg16 x (s.reg16 x - 1)).retire 1 s.cfg.cyc.incdecRr)

/-- ADD HL,rr (R146). -/
def addHlInstr (x : Reg16) (s : State) : Result :=
  .next (((s.setPair .HL (s.pair .HL + s.reg16 x)).setFlags (addWordFlags (s.pair .HL) (s.reg16 x) s.flags)).retire 1
    s.cfg.cyc.addHlRr)

/-- 0x03: INC BC (R144). -/
def execInc_BC (s : State) : Result := inc16Instr .BC s

/-- 0x04: INC B (R140). -/
def execInc_B (s : State) : Result := incInstr (.reg .B) s

/-- 0x05: DEC B (R142). -/
def execDec_B (s : State) : Result := decInstr (.reg .B) s

/-- 0x09: ADD HL,BC (R146). -/
def execAdd_HL_BC (s : State) : Result := addHlInstr .BC s

/-- 0x0B: DEC BC (R145). -/
def execDec_BC (s : State) : Result := dec16Instr .BC s

/-- 0x0C: INC C (R140). -/
def execInc_C (s : State) : Result := incInstr (.reg .C) s

/-- 0x0D: DEC C (R142). -/
def execDec_C (s : State) : Result := decInstr (.reg .C) s

/-- 0x13: INC DE (R144). -/
def execInc_DE (s : State) : Result := inc16Instr .DE s

/-- 0x14: INC D (R140). -/
def execInc_D (s : State) : Result := incInstr (.reg .D) s

/-- 0x15: DEC D (R142). -/
def execDec_D (s : State) : Result := decInstr (.reg .D) s

/-- 0x19: ADD HL,DE (R146). -/
def execAdd_HL_DE (s : State) : Result := addHlInstr .DE s

/-- 0x1B: DEC DE (R145). -/
def execDec_DE (s : State) : Result := dec16Instr .DE s

/-- 0x1C: INC E (R140). -/
def execInc_E (s : State) : Result := incInstr (.reg .E) s

/-- 0x1D: DEC E (R142). -/
def execDec_E (s : State) : Result := decInstr (.reg .E) s

/-- 0x23: INC HL (R144). -/
def execInc_HL (s : State) : Result := inc16Instr .HL s

/-- 0x24: INC H (R140). -/
def execInc_H (s : State) : Result := incInstr (.reg .H) s

/-- 0x25: DEC H (R142). -/
def execDec_H (s : State) : Result := decInstr (.reg .H) s

/-- 0x29: ADD HL,HL (R146). -/
def execAdd_HL_HL (s : State) : Result := addHlInstr .HL s

/-- 0x2B: DEC HL (R145). -/
def execDec_HL (s : State) : Result := dec16Instr .HL s

/-- 0x2C: INC L (R140). -/
def execInc_L (s : State) : Result := incInstr (.reg .L) s

/-- 0x2D: DEC L (R142). -/
def execDec_L (s : State) : Result := decInstr (.reg .L) s

/-- 0x33: INC SP (R144). -/
def execInc_SP (s : State) : Result := inc16Instr .SP s

/-- 0x34: INC (HL) (R141). -/
def execInc_indHL (s : State) : Result := incInstr .indHL s

/-- 0x35: DEC (HL) (R143). -/
def execDec_indHL (s : State) : Result := decInstr .indHL s

/-- 0x39: ADD HL,SP (R146). -/
def execAdd_HL_SP (s : State) : Result := addHlInstr .SP s

/-- 0x3B: DEC SP (R145). -/
def execDec_SP (s : State) : Result := dec16Instr .SP s

/-- 0x3C: INC A (R140). -/
def execInc_A (s : State) : Result := incInstr (.reg .A) s

/-- 0x3D: DEC A (R142). -/
def execDec_A (s : State) : Result := decInstr (.reg .A) s

end Sys2Proof.Machine
end

