-- ==== Sys2Proof/Machine/Load16.lean ====
section
/-! DEFINITION. 16-bit loads and stack push and pop (43_load16_stack.md R190 to R198). -/

namespace Sys2Proof.Machine

/-- The pseudo-pair AF (R23): A high, packed flags low. -/
def State.af (s : State) : Word := joinBytes (s.reg .A) s.flags.toByte

/-- A write of AF (R23): bits 3 to 0 are dropped. -/
def State.setAf (s : State) (v : Word) : State := (s.setReg .A (highByte v)).setFlags (Flags.ofByte (lowByte v))

/-- LD rr,d16 (R190). -/
def loadWordImm (x : Reg16) (s : State) : Result :=
  onOk s.imm16 fun v => .next ((s.setReg16 x v).retire 3 s.cfg.cyc.ldRrD16)

/-- LD (a16),SP (R191): low byte at a16, high byte at a16+1. -/
def storeSp (s : State) : Result :=
  onOk s.imm16 fun addr => onOk (s.memWrite2 addr s.sp) fun t => .next (t.retire 3 s.cfg.cyc.ldA16Sp)

/-- PUSH (R194, R196). -/
def pushWord (v : Word) (s : State) : Result := onOk (s.push16 v) fun t => .next (t.retire 1 s.cfg.cyc.push)

/-- POP (R197, R198): `write` puts the popped word into the destination. -/
def popWord (write : State → Word → State) (s : State) : Result :=
  onOk s.pop16 fun (v, t) => .next ((write t v).retire 1 s.cfg.cyc.pop)

/-- 0x01: LD BC,d16 (R190). -/
def execLd_BC_d16 (s : State) : Result := loadWordImm .BC s

/-- 0x08: LD (a16),SP (R191). -/
def execLd_inda16_SP (s : State) : Result := storeSp s

/-- 0x11: LD DE,d16 (R190). -/
def execLd_DE_d16 (s : State) : Result := loadWordImm .DE s

/-- 0x21: LD HL,d16 (R190). -/
def execLd_HL_d16 (s : State) : Result := loadWordImm .HL s

/-- 0x31: LD SP,d16 (R190). -/
def execLd_SP_d16 (s : State) : Result := loadWordImm .SP s

/-- 0xC1: POP BC (R197). -/
def execPop_BC (s : State) : Result := popWord (fun t v => t.setPair .BC v) s

/-- 0xC5: PUSH BC (R194). -/
def execPush_BC (s : State) : Result := pushWord (s.pair .BC) s

/-- 0xD1: POP DE (R197). -/
def execPop_DE (s : State) : Result := popWord (fun t v => t.setPair .DE v) s

/-- 0xD5: PUSH DE (R194). -/
def execPush_DE (s : State) : Result := pushWord (s.pair .DE) s

/-- 0xE1: POP HL (R197). -/
def execPop_HL (s : State) : Result := popWord (fun t v => t.setPair .HL v) s

/-- 0xE5: PUSH HL (R194). -/
def execPush_HL (s : State) : Result := pushWord (s.pair .HL) s

/-- 0xF1: POP AF (R198). -/
def execPop_AF (s : State) : Result := popWord State.setAf s

/-- 0xF5: PUSH AF (R196). -/
def execPush_AF (s : State) : Result := pushWord s.af s

/-- 0xF9: LD SP,HL (R192). -/
def execLd_SP_HL (s : State) : Result := .next ((s.setSp (s.pair .HL)).retire 1 s.cfg.cyc.ldSpHl)

end Sys2Proof.Machine
end

