-- ==== Sys2Proof/Machine/Load8.lean ====
section
/-! DEFINITION. The 8-bit loads (42_load8.md R160 to R179). No load writes a flag; the source is read completely before the
destination is written. -/

namespace Sys2Proof.Machine

/-- LD r,r' (R161). -/
def loadReg (rd rs : Reg8) (s : State) : Result := .next ((s.setReg rd (s.reg rs)).retire 1 s.cfg.cyc.ldRR)

/-- LD r,d8 (R162). -/
def loadImm (rd : Reg8) (s : State) : Result :=
  onOk s.imm8 fun v => .next ((s.setReg rd v).retire 2 s.cfg.cyc.ldRD8)

/-- A load of a register from memory: the address, the read, the post-effect. -/
def loadMem (rd : Reg8) (m : MemOperand) (cycles : Nat) (s : State) : Result :=
  onOk (s.effAddr m) fun addr =>
    onOk (s.memRead addr) fun v =>
      .next (((s.setReg rd v).postEffect m addr).retire (memOperandLength m) cycles)

/-- A store of a byte to memory: the address, the write, the post-effect. -/
def storeMem (m : MemOperand) (v : Byte) (cycles : Nat) (s : State) : Result :=
  onOk (s.effAddr m) fun addr =>
    onOk (s.memWrite addr v) fun t => .next ((t.postEffect m addr).retire (memOperandLength m) cycles)

/-- LD (HL),d8 (R165): the immediate is read before the write. -/
def storeImm (s : State) : Result :=
  onOk s.imm8 fun v => onOk (s.memWrite (s.pair .HL) v) fun t => .next (t.retire 2 s.cfg.cyc.ldHlD8)

/-- 0x02: LD (BC),A (R168). -/
def execLd_indBC_A (s : State) : Result := storeMem .indBC (s.reg .A) s.cfg.cyc.ldRrA s

/-- 0x06: LD B,d8 (R162). -/
def execLd_B_d8 (s : State) : Result := loadImm .B s

/-- 0x0A: LD A,(BC) (R166). -/
def execLd_A_indBC (s : State) : Result := loadMem .A .indBC s.cfg.cyc.ldARr s

/-- 0x0E: LD C,d8 (R162). -/
def execLd_C_d8 (s : State) : Result := loadImm .C s

/-- 0x12: LD (DE),A (R169). -/
def execLd_indDE_A (s : State) : Result := storeMem .indDE (s.reg .A) s.cfg.cyc.ldRrA s

/-- 0x16: LD D,d8 (R162). -/
def execLd_D_d8 (s : State) : Result := loadImm .D s

/-- 0x1A: LD A,(DE) (R167). -/
def execLd_A_indDE (s : State) : Result := loadMem .A .indDE s.cfg.cyc.ldARr s

/-- 0x1E: LD E,d8 (R162). -/
def execLd_E_d8 (s : State) : Result := loadImm .E s

/-- 0x22: LD (HL+),A (R170). -/
def execLd_indHLinc_A (s : State) : Result := storeMem .indHLinc (s.reg .A) s.cfg.cyc.ldHliA s

/-- 0x26: LD H,d8 (R162). -/
def execLd_H_d8 (s : State) : Result := loadImm .H s

/-- 0x2A: LD A,(HL+) (R172). -/
def execLd_A_indHLinc (s : State) : Result := loadMem .A .indHLinc s.cfg.cyc.ldAHli s

/-- 0x2E: LD L,d8 (R162). -/
def execLd_L_d8 (s : State) : Result := loadImm .L s

/-- 0x32: LD (HL-),A (R171). -/
def execLd_indHLdec_A (s : State) : Result := storeMem .indHLdec (s.reg .A) s.cfg.cyc.ldHldA s

/-- 0x36: LD (HL),d8 (R165). -/
def execLd_indHL_d8 (s : State) : Result := storeImm s

/-- 0x3A: LD A,(HL-) (R173). -/
def execLd_A_indHLdec (s : State) : Result := loadMem .A .indHLdec s.cfg.cyc.ldAHld s

/-- 0x3E: LD A,d8 (R162). -/
def execLd_A_d8 (s : State) : Result := loadImm .A s

/-- 0x40: LD B,B (R161). -/
def execLd_B_B (s : State) : Result := loadReg .B .B s

/-- 0x41: LD B,C (R161). -/
def execLd_B_C (s : State) : Result := loadReg .B .C s

/-- 0x42: LD B,D (R161). -/
def execLd_B_D (s : State) : Result := loadReg .B .D s

/-- 0x43: LD B,E (R161). -/
def execLd_B_E (s : State) : Result := loadReg .B .E s

/-- 0x44: LD B,H (R161). -/
def execLd_B_H (s : State) : Result := loadReg .B .H s

/-- 0x45: LD B,L (R161). -/
def execLd_B_L (s : State) : Result := loadReg .B .L s

/-- 0x46: LD B,(HL) (R163). -/
def execLd_B_indHL (s : State) : Result := loadMem .B .indHL s.cfg.cyc.ldRHl s

/-- 0x47: LD B,A (R161). -/
def execLd_B_A (s : State) : Result := loadReg .B .A s

/-- 0x48: LD C,B (R161). -/
def execLd_C_B (s : State) : Result := loadReg .C .B s

/-- 0x49: LD C,C (R161). -/
def execLd_C_C (s : State) : Result := loadReg .C .C s

/-- 0x4A: LD C,D (R161). -/
def execLd_C_D (s : State) : Result := loadReg .C .D s

/-- 0x4B: LD C,E (R161). -/
def execLd_C_E (s : State) : Result := loadReg .C .E s

/-- 0x4C: LD C,H (R161). -/
def execLd_C_H (s : State) : Result := loadReg .C .H s

/-- 0x4D: LD C,L (R161). -/
def execLd_C_L (s : State) : Result := loadReg .C .L s

/-- 0x4E: LD C,(HL) (R163). -/
def execLd_C_indHL (s : State) : Result := loadMem .C .indHL s.cfg.cyc.ldRHl s

/-- 0x4F: LD C,A (R161). -/
def execLd_C_A (s : State) : Result := loadReg .C .A s

/-- 0x50: LD D,B (R161). -/
def execLd_D_B (s : State) : Result := loadReg .D .B s

/-- 0x51: LD D,C (R161). -/
def execLd_D_C (s : State) : Result := loadReg .D .C s

/-- 0x52: LD D,D (R161). -/
def execLd_D_D (s : State) : Result := loadReg .D .D s

/-- 0x53: LD D,E (R161). -/
def execLd_D_E (s : State) : Result := loadReg .D .E s

/-- 0x54: LD D,H (R161). -/
def execLd_D_H (s : State) : Result := loadReg .D .H s

/-- 0x55: LD D,L (R161). -/
def execLd_D_L (s : State) : Result := loadReg .D .L s

/-- 0x56: LD D,(HL) (R163). -/
def execLd_D_indHL (s : State) : Result := loadMem .D .indHL s.cfg.cyc.ldRHl s

/-- 0x57: LD D,A (R161). -/
def execLd_D_A (s : State) : Result := loadReg .D .A s

/-- 0x58: LD E,B (R161). -/
def execLd_E_B (s : State) : Result := loadReg .E .B s

/-- 0x59: LD E,C (R161). -/
def execLd_E_C (s : State) : Result := loadReg .E .C s

/-- 0x5A: LD E,D (R161). -/
def execLd_E_D (s : State) : Result := loadReg .E .D s

/-- 0x5B: LD E,E (R161). -/
def execLd_E_E (s : State) : Result := loadReg .E .E s

/-- 0x5C: LD E,H (R161). -/
def execLd_E_H (s : State) : Result := loadReg .E .H s

/-- 0x5D: LD E,L (R161). -/
def execLd_E_L (s : State) : Result := loadReg .E .L s

/-- 0x5E: LD E,(HL) (R163). -/
def execLd_E_indHL (s : State) : Result := loadMem .E .indHL s.cfg.cyc.ldRHl s

/-- 0x5F: LD E,A (R161). -/
def execLd_E_A (s : State) : Result := loadReg .E .A s

/-- 0x60: LD H,B (R161). -/
def execLd_H_B (s : State) : Result := loadReg .H .B s

/-- 0x61: LD H,C (R161). -/
def execLd_H_C (s : State) : Result := loadReg .H .C s

/-- 0x62: LD H,D (R161). -/
def execLd_H_D (s : State) : Result := loadReg .H .D s

/-- 0x63: LD H,E (R161). -/
def execLd_H_E (s : State) : Result := loadReg .H .E s

/-- 0x64: LD H,H (R161). -/
def execLd_H_H (s : State) : Result := loadReg .H .H s

/-- 0x65: LD H,L (R161). -/
def execLd_H_L (s : State) : Result := loadReg .H .L s

/-- 0x66: LD H,(HL) (R163). -/
def execLd_H_indHL (s : State) : Result := loadMem .H .indHL s.cfg.cyc.ldRHl s

/-- 0x67: LD H,A (R161). -/
def execLd_H_A (s : State) : Result := loadReg .H .A s

/-- 0x68: LD L,B (R161). -/
def execLd_L_B (s : State) : Result := loadReg .L .B s

/-- 0x69: LD L,C (R161). -/
def execLd_L_C (s : State) : Result := loadReg .L .C s

/-- 0x6A: LD L,D (R161). -/
def execLd_L_D (s : State) : Result := loadReg .L .D s

/-- 0x6B: LD L,E (R161). -/
def execLd_L_E (s : State) : Result := loadReg .L .E s

/-- 0x6C: LD L,H (R161). -/
def execLd_L_H (s : State) : Result := loadReg .L .H s

/-- 0x6D: LD L,L (R161). -/
def execLd_L_L (s : State) : Result := loadReg .L .L s

/-- 0x6E: LD L,(HL) (R163). -/
def execLd_L_indHL (s : State) : Result := loadMem .L .indHL s.cfg.cyc.ldRHl s

/-- 0x6F: LD L,A (R161). -/
def execLd_L_A (s : State) : Result := loadReg .L .A s

/-- 0x70: LD (HL),B (R164). -/
def execLd_indHL_B (s : State) : Result := storeMem .indHL (s.reg .B) s.cfg.cyc.ldHlR s

/-- 0x71: LD (HL),C (R164). -/
def execLd_indHL_C (s : State) : Result := storeMem .indHL (s.reg .C) s.cfg.cyc.ldHlR s

/-- 0x72: LD (HL),D (R164). -/
def execLd_indHL_D (s : State) : Result := storeMem .indHL (s.reg .D) s.cfg.cyc.ldHlR s

/-- 0x73: LD (HL),E (R164). -/
def execLd_indHL_E (s : State) : Result := storeMem .indHL (s.reg .E) s.cfg.cyc.ldHlR s

/-- 0x74: LD (HL),H (R164). -/
def execLd_indHL_H (s : State) : Result := storeMem .indHL (s.reg .H) s.cfg.cyc.ldHlR s

/-- 0x75: LD (HL),L (R164). -/
def execLd_indHL_L (s : State) : Result := storeMem .indHL (s.reg .L) s.cfg.cyc.ldHlR s

/-- 0x77: LD (HL),A (R164). -/
def execLd_indHL_A (s : State) : Result := storeMem .indHL (s.reg .A) s.cfg.cyc.ldHlR s

/-- 0x78: LD A,B (R161). -/
def execLd_A_B (s : State) : Result := loadReg .A .B s

/-- 0x79: LD A,C (R161). -/
def execLd_A_C (s : State) : Result := loadReg .A .C s

/-- 0x7A: LD A,D (R161). -/
def execLd_A_D (s : State) : Result := loadReg .A .D s

/-- 0x7B: LD A,E (R161). -/
def execLd_A_E (s : State) : Result := loadReg .A .E s

/-- 0x7C: LD A,H (R161). -/
def execLd_A_H (s : State) : Result := loadReg .A .H s

/-- 0x7D: LD A,L (R161). -/
def execLd_A_L (s : State) : Result := loadReg .A .L s

/-- 0x7E: LD A,(HL) (R163). -/
def execLd_A_indHL (s : State) : Result := loadMem .A .indHL s.cfg.cyc.ldRHl s

/-- 0x7F: LD A,A (R161). -/
def execLd_A_A (s : State) : Result := loadReg .A .A s

/-- 0xE0: LDH (a8),A (R174). -/
def execLdh_inda8_A (s : State) : Result := storeMem .inda8 (s.reg .A) s.cfg.cyc.ldhA8A s

/-- 0xE2: LD (C),A (R176). -/
def execLd_indC_A (s : State) : Result := storeMem .indC (s.reg .A) s.cfg.cyc.ldCA s

/-- 0xEA: LD (a16),A (R178). -/
def execLd_inda16_A (s : State) : Result := storeMem .inda16 (s.reg .A) s.cfg.cyc.ldA16A s

/-- 0xF0: LDH A,(a8) (R175). -/
def execLdh_A_inda8 (s : State) : Result := loadMem .A .inda8 s.cfg.cyc.ldhAA8 s

/-- 0xF2: LD A,(C) (R177). -/
def execLd_A_indC (s : State) : Result := loadMem .A .indC s.cfg.cyc.ldAC s

/-- 0xFA: LD A,(a16) (R179). -/
def execLd_A_inda16 (s : State) : Result := loadMem .A .inda16 s.cfg.cyc.ldAA16 s

end Sys2Proof.Machine
end

