-- ==== Sys2Proof/Machine/NopHalt.lean ====
section
/-! DEFINITION. NOP, HALT and UNKNOWN (46_nop_halt_step.md R255 to R257). -/

namespace Sys2Proof.Machine

/-- Executing an UNKNOWN descriptor (R257): a fault that names the opcode and PC, never a no-op (R104). -/
def unknownInstr (opcode : Opcode) (s : State) : Result := .fault (.unknownOpcode opcode s.pc)

/-- 0x00: NOP (R255). -/
def execNop (s : State) : Result := .next (s.retire 1 s.cfg.cyc.nop)

/-- 0x76: HALT (R256). -/
def execHalt (s : State) : Result := .next ((s.setRun .halted).retire 1 s.cfg.cyc.halt)

/-- UNKNOWN of the base table (R257). -/
def execUnknown (op : Byte) (s : State) : Result := unknownInstr (.base op) s

/-- UNKNOWN of the extended table (R257): the opcode is 0xCB and the byte after it. -/
def execUnknownCb (op2 : Byte) (s : State) : Result := unknownInstr (.extended op2) s

end Sys2Proof.Machine
end

