-- ==== Sys2Proof/Machine/Step.lean ====
section
/-! DEFINITION. The step, the machine's only transition (46_nop_halt_step.md R250 to R252). -/

namespace Sys2Proof.Machine

/-- `Step()`. A machine whose fault has latched has no step (R250, R292); a halted machine's step is the identity (R252); a
running one fetches, decodes and executes one instruction (R251), and takes the fault if one is raised (R292, log 1). -/
def step (s : State) : Host.Outcome State Fault Refusal :=
  match s.fault with
  | some f => .fault f
  | none =>
    match s.run with
    | .halted => .next s
    | .running =>
      match s.fetchInstr with
      | .error f => s.takeFault f
      | .ok i => s.settle (exec i s)

/-- `s` with an opcode-table word's bytes where the next step fetches: in the array of the region that PC selects, with the
machine running and no fault latched, which the fetch needs. It stands for loading a program from outside (log 11). -/
def State.withFetchWord (s : State) (nbits w : Nat) : State :=
  { s with run := .running, fault := none }.pokeBytes s.pc (tableBytes nbits w)

end Sys2Proof.Machine
end

