-- ==== Sys2Proof/Machine/Construct.lean ====
section
/-! DEFINITION. Reset is construction (70_reset_and_hazards.md R320 to R323; 00_scope.md R7): the inputs, the size check and the
state that results. -/

namespace Sys2Proof.Machine

/-- INIT_SNAPSHOT: initial register values (R7, R320). F is given as a byte. -/
structure Snapshot where
  a : Byte
  b : Byte
  c : Byte
  d : Byte
  e : Byte
  h : Byte
  l : Byte
  f : Byte
  pc : Word
  sp : Word
  deriving DecidableEq, Repr

/-- RAM_INIT: for each array its bytes from place 0 on; bytes past the list's end are 0x00, and bytes past the array's end are
not taken (log 7). -/
structure RamInit where
  vram : List Byte
  wram : List Byte
  hram : List Byte
  deriving DecidableEq, Repr

/-- The inputs of a construction (R7, R320). The snapshot is optional. -/
structure Construction where
  bootImage : List Byte
  romImage : List Byte
  snapshot : Option Snapshot
  bootActive : Bool
  ramInit : RamInit
  cfg : Config
  deriving DecidableEq, Repr

/-- The default of INIT_SNAPSHOT (R7, D6). -/
def defaultSnapshot : Snapshot := ⟨0x00, 0x00, 0x00, 0x00, 0x00, 0x00, 0x00, 0x00, 0x0000, 0x0000⟩

/-- BOOT_IMAGE's required length (R321). -/
abbrev bootSize : Nat := 256

/-- The machine that R320 builds from these inputs, the size check aside. A snapshot's F byte loses its low nibble. -/
def Construction.state (k : Construction) : State :=
  let r := k.snapshot.getD defaultSnapshot
  { regs := ⟨r.a, r.b, r.c, r.d, r.e, r.h, r.l⟩
    flags := Flags.ofByte r.f
    pc := r.pc
    sp := r.sp
    run := .running
    clk := 0
    fault := none
    bootActive := k.bootActive
    gpu := ⟨.hblank, 0, 0⟩
    boot := Memory.ofBytes 0 k.bootImage
    rom0 := Memory.ofBytes 0 k.romImage
    vram := Memory.ofBytes 0 (k.ramInit.vram.take (spanSize k.cfg.regions.vram))
    wram := Memory.ofBytes 0 (k.ramInit.wram.take (spanSize k.cfg.regions.wram))
    hram := Memory.ofBytes 0 (k.ramInit.hram.take (spanSize k.cfg.regions.hram))
    cfg := k.cfg }

/-- `Reset(…)` (R320, R321): an image of the wrong length builds no machine; the boot image is looked at first (log 8). -/
def construct (k : Construction) : Result :=
  if k.bootImage.length ≠ bootSize then .fault (.bufferSize .boot)
  else if k.romImage.length ≠ spanSize k.cfg.regions.rom0 then .fault (.bufferSize .rom)
  else .next k.state

/-- Every input at its default; the images, which have none, all zero (log 3). -/
def defaultConstruction : Construction where
  bootImage := List.replicate bootSize 0x00
  romImage := List.replicate (spanSize defaultRegions.rom0) 0x00
  snapshot := none
  bootActive := true
  ramInit := ⟨[], [], []⟩
  cfg := defaultConfig

end Sys2Proof.Machine
end

