-- ==== Sys2Proof/Machine/Report.lean ====
section
/-! DEFINITION. What the host can learn of a step beside the state (46_nop_halt_step.md R253, R254): the mnemonic, the byte length
and the cycle cost of the instruction, and the graphics unit's pulse (47_graphics_timing.md R277). None of it is state;
the trace payload has no content in the spec (N15, log 20). -/

namespace Sys2Proof.Machine

/-- The mnemonic of R108, the descriptor's display tag (R107). -/
def mnemonicOf : Instr → String
  | .nop => "NOP" | .ld_BC_d16 => "LD BC,d16" | .ld_indBC_A => "LD (BC),A" | .inc_BC => "INC BC"
  | .inc_B => "INC B" | .dec_B => "DEC B" | .ld_B_d8 => "LD B,d8" | .rlca => "RLCA"
  | .ld_inda16_SP => "LD (a16),SP" | .add_HL_BC => "ADD HL,BC" | .ld_A_indBC => "LD A,(BC)"
  | .dec_BC => "DEC BC" | .inc_C => "INC C" | .dec_C => "DEC C" | .ld_C_d8 => "LD C,d8" | .rrca => "RRCA"
  | .ld_DE_d16 => "LD DE,d16" | .ld_indDE_A => "LD (DE),A" | .inc_DE => "INC DE" | .inc_D => "INC D"
  | .dec_D => "DEC D" | .ld_D_d8 => "LD D,d8" | .rla => "RLA" | .jr_e8 => "JR e8" | .add_HL_DE => "ADD HL,DE"
  | .ld_A_indDE => "LD A,(DE)" | .dec_DE => "DEC DE" | .inc_E => "INC E" | .dec_E => "DEC E"
  | .ld_E_d8 => "LD E,d8" | .rra => "RRA" | .jr_NZ_e8 => "JR NZ,e8" | .ld_HL_d16 => "LD HL,d16"
  | .ld_indHLinc_A => "LD (HL+),A" | .inc_HL => "INC HL" | .inc_H => "INC H" | .dec_H => "DEC H"
  | .ld_H_d8 => "LD H,d8" | .jr_Z_e8 => "JR Z,e8" | .add_HL_HL => "ADD HL,HL" | .ld_A_indHLinc => "LD A,(HL+)"
  | .dec_HL => "DEC HL" | .inc_L => "INC L" | .dec_L => "DEC L" | .ld_L_d8 => "LD L,d8"
  | .jr_NC_e8 => "JR NC,e8" | .ld_SP_d16 => "LD SP,d16" | .ld_indHLdec_A => "LD (HL-),A" | .inc_SP => "INC SP"
  | .inc_indHL => "INC (HL)" | .dec_indHL => "DEC (HL)" | .ld_indHL_d8 => "LD (HL),d8" | .jr_C_e8 => "JR C,e8"
  | .add_HL_SP => "ADD HL,SP" | .ld_A_indHLdec => "LD A,(HL-)" | .dec_SP => "DEC SP" | .inc_A => "INC A"
  | .dec_A => "DEC A" | .ld_A_d8 => "LD A,d8" | .ld_B_B => "LD B,B" | .ld_B_C => "LD B,C" | .ld_B_D => "LD B,D"
  | .ld_B_E => "LD B,E" | .ld_B_H => "LD B,H" | .ld_B_L => "LD B,L" | .ld_B_indHL => "LD B,(HL)"
  | .ld_B_A => "LD B,A" | .ld_C_B => "LD C,B" | .ld_C_C => "LD C,C" | .ld_C_D => "LD C,D" | .ld_C_E => "LD C,E"
  | .ld_C_H => "LD C,H" | .ld_C_L => "LD C,L" | .ld_C_indHL => "LD C,(HL)" | .ld_C_A => "LD C,A"
  | .ld_D_B => "LD D,B" | .ld_D_C => "LD D,C" | .ld_D_D => "LD D,D" | .ld_D_E => "LD D,E" | .ld_D_H => "LD D,H"
  | .ld_D_L => "LD D,L" | .ld_D_indHL => "LD D,(HL)" | .ld_D_A => "LD D,A" | .ld_E_B => "LD E,B"
  | .ld_E_C => "LD E,C" | .ld_E_D => "LD E,D" | .ld_E_E => "LD E,E" | .ld_E_H => "LD E,H" | .ld_E_L => "LD E,L"
  | .ld_E_indHL => "LD E,(HL)" | .ld_E_A => "LD E,A" | .ld_H_B => "LD H,B" | .ld_H_C => "LD H,C"
  | .ld_H_D => "LD H,D" | .ld_H_E => "LD H,E" | .ld_H_H => "LD H,H" | .ld_H_L => "LD H,L"
  | .ld_H_indHL => "LD H,(HL)" | .ld_H_A => "LD H,A" | .ld_L_B => "LD L,B" | .ld_L_C => "LD L,C"
  | .ld_L_D => "LD L,D" | .ld_L_E => "LD L,E" | .ld_L_H => "LD L,H" | .ld_L_L => "LD L,L"
  | .ld_L_indHL => "LD L,(HL)" | .ld_L_A => "LD L,A" | .ld_indHL_B => "LD (HL),B" | .ld_indHL_C => "LD (HL),C"
  | .ld_indHL_D => "LD (HL),D" | .ld_indHL_E => "LD (HL),E" | .ld_indHL_H => "LD (HL),H"
  | .ld_indHL_L => "LD (HL),L" | .halt => "HALT" | .ld_indHL_A => "LD (HL),A" | .ld_A_B => "LD A,B"
  | .ld_A_C => "LD A,C" | .ld_A_D => "LD A,D" | .ld_A_E => "LD A,E" | .ld_A_H => "LD A,H" | .ld_A_L => "LD A,L"
  | .ld_A_indHL => "LD A,(HL)" | .ld_A_A => "LD A,A" | .add_A_B => "ADD A,B" | .add_A_C => "ADD A,C"
  | .add_A_D => "ADD A,D" | .add_A_E => "ADD A,E" | .add_A_H => "ADD A,H" | .add_A_L => "ADD A,L"
  | .add_A_indHL => "ADD A,(HL)" | .add_A_A => "ADD A,A" | .adc_A_B => "ADC A,B" | .adc_A_C => "ADC A,C"
  | .adc_A_D => "ADC A,D" | .adc_A_E => "ADC A,E" | .adc_A_H => "ADC A,H" | .adc_A_L => "ADC A,L"
  | .adc_A_indHL => "ADC A,(HL)" | .adc_A_A => "ADC A,A" | .sub_A_B => "SUB A,B" | .sub_A_C => "SUB A,C"
  | .sub_A_D => "SUB A,D" | .sub_A_E => "SUB A,E" | .sub_A_H => "SUB A,H" | .sub_A_L => "SUB A,L"
  | .sub_A_indHL => "SUB A,(HL)" | .sub_A_A => "SUB A,A" | .sbc_A_B => "SBC A,B" | .sbc_A_C => "SBC A,C"
  | .sbc_A_D => "SBC A,D" | .sbc_A_E => "SBC A,E" | .sbc_A_H => "SBC A,H" | .sbc_A_L => "SBC A,L"
  | .sbc_A_indHL => "SBC A,(HL)" | .sbc_A_A => "SBC A,A" | .and_A_B => "AND A,B" | .and_A_C => "AND A,C"
  | .and_A_D => "AND A,D" | .and_A_E => "AND A,E" | .and_A_H => "AND A,H" | .and_A_L => "AND A,L"
  | .and_A_indHL => "AND A,(HL)" | .and_A_A => "AND A,A" | .xor_A_B => "XOR A,B" | .xor_A_C => "XOR A,C"
  | .xor_A_D => "XOR A,D" | .xor_A_E => "XOR A,E" | .xor_A_H => "XOR A,H" | .xor_A_L => "XOR A,L"
  | .xor_A_indHL => "XOR A,(HL)" | .xor_A_A => "XOR A,A" | .or_A_B => "OR A,B" | .or_A_C => "OR A,C"
  | .or_A_D => "OR A,D" | .or_A_E => "OR A,E" | .or_A_H => "OR A,H" | .or_A_L => "OR A,L"
  | .or_A_indHL => "OR A,(HL)" | .or_A_A => "OR A,A" | .cp_A_B => "CP A,B" | .cp_A_C => "CP A,C"
  | .cp_A_D => "CP A,D" | .cp_A_E => "CP A,E" | .cp_A_H => "CP A,H" | .cp_A_L => "CP A,L"
  | .cp_A_indHL => "CP A,(HL)" | .cp_A_A => "CP A,A" | .ret_NZ => "RET NZ" | .pop_BC => "POP BC"
  | .jp_NZ_a16 => "JP NZ,a16" | .jp_a16 => "JP a16" | .call_NZ_a16 => "CALL NZ,a16" | .push_BC => "PUSH BC"
  | .add_A_d8 => "ADD A,d8" | .ret_Z => "RET Z" | .ret => "RET" | .jp_Z_a16 => "JP Z,a16"
  | .call_Z_a16 => "CALL Z,a16" | .call_a16 => "CALL a16" | .adc_A_d8 => "ADC A,d8" | .ret_NC => "RET NC"
  | .pop_DE => "POP DE" | .jp_NC_a16 => "JP NC,a16" | .call_NC_a16 => "CALL NC,a16" | .push_DE => "PUSH DE"
  | .sub_A_d8 => "SUB A,d8" | .ret_C => "RET C" | .jp_C_a16 => "JP C,a16" | .call_C_a16 => "CALL C,a16"
  | .sbc_A_d8 => "SBC A,d8" | .ldh_inda8_A => "LDH (a8),A" | .pop_HL => "POP HL" | .ld_indC_A => "LD (C),A"
  | .push_HL => "PUSH HL" | .and_A_d8 => "AND A,d8" | .jp_HL => "JP HL" | .ld_inda16_A => "LD (a16),A"
  | .xor_A_d8 => "XOR A,d8" | .ldh_A_inda8 => "LDH A,(a8)" | .pop_AF => "POP AF" | .ld_A_indC => "LD A,(C)"
  | .push_AF => "PUSH AF" | .or_A_d8 => "OR A,d8" | .ld_SP_HL => "LD SP,HL" | .ld_A_inda16 => "LD A,(a16)"
  | .cp_A_d8 => "CP A,d8" | .rlc_B => "RLC B" | .rlc_C => "RLC C" | .rlc_D => "RLC D" | .rlc_E => "RLC E"
  | .rlc_H => "RLC H" | .rlc_L => "RLC L" | .rlc_indHL => "RLC (HL)" | .rlc_A => "RLC A" | .rrc_B => "RRC B"
  | .rrc_C => "RRC C" | .rrc_D => "RRC D" | .rrc_E => "RRC E" | .rrc_H => "RRC H" | .rrc_L => "RRC L"
  | .rrc_indHL => "RRC (HL)" | .rrc_A => "RRC A" | .rl_B => "RL B" | .rl_C => "RL C" | .rl_D => "RL D"
  | .rl_E => "RL E" | .rl_H => "RL H" | .rl_L => "RL L" | .rl_indHL => "RL (HL)" | .rl_A => "RL A"
  | .rr_B => "RR B" | .rr_C => "RR C" | .rr_D => "RR D" | .rr_E => "RR E" | .rr_H => "RR H" | .rr_L => "RR L"
  | .rr_indHL => "RR (HL)" | .rr_A => "RR A" | .bit_0_B => "BIT 0,B" | .bit_0_C => "BIT 0,C"
  | .bit_0_D => "BIT 0,D" | .bit_0_E => "BIT 0,E" | .bit_0_H => "BIT 0,H" | .bit_0_L => "BIT 0,L"
  | .bit_0_indHL => "BIT 0,(HL)" | .bit_0_A => "BIT 0,A" | .bit_1_B => "BIT 1,B" | .bit_1_C => "BIT 1,C"
  | .bit_1_D => "BIT 1,D" | .bit_1_E => "BIT 1,E" | .bit_1_H => "BIT 1,H" | .bit_1_L => "BIT 1,L"
  | .bit_1_indHL => "BIT 1,(HL)" | .bit_1_A => "BIT 1,A" | .bit_2_B => "BIT 2,B" | .bit_2_C => "BIT 2,C"
  | .bit_2_D => "BIT 2,D" | .bit_2_E => "BIT 2,E" | .bit_2_H => "BIT 2,H" | .bit_2_L => "BIT 2,L"
  | .bit_2_indHL => "BIT 2,(HL)" | .bit_2_A => "BIT 2,A" | .bit_3_B => "BIT 3,B" | .bit_3_C => "BIT 3,C"
  | .bit_3_D => "BIT 3,D" | .bit_3_E => "BIT 3,E" | .bit_3_H => "BIT 3,H" | .bit_3_L => "BIT 3,L"
  | .bit_3_indHL => "BIT 3,(HL)" | .bit_3_A => "BIT 3,A" | .bit_4_B => "BIT 4,B" | .bit_4_C => "BIT 4,C"
  | .bit_4_D => "BIT 4,D" | .bit_4_E => "BIT 4,E" | .bit_4_H => "BIT 4,H" | .bit_4_L => "BIT 4,L"
  | .bit_4_indHL => "BIT 4,(HL)" | .bit_4_A => "BIT 4,A" | .bit_5_B => "BIT 5,B" | .bit_5_C => "BIT 5,C"
  | .bit_5_D => "BIT 5,D" | .bit_5_E => "BIT 5,E" | .bit_5_H => "BIT 5,H" | .bit_5_L => "BIT 5,L"
  | .bit_5_indHL => "BIT 5,(HL)" | .bit_5_A => "BIT 5,A" | .bit_6_B => "BIT 6,B" | .bit_6_C => "BIT 6,C"
  | .bit_6_D => "BIT 6,D" | .bit_6_E => "BIT 6,E" | .bit_6_H => "BIT 6,H" | .bit_6_L => "BIT 6,L"
  | .bit_6_indHL => "BIT 6,(HL)" | .bit_6_A => "BIT 6,A" | .bit_7_B => "BIT 7,B" | .bit_7_C => "BIT 7,C"
  | .bit_7_D => "BIT 7,D" | .bit_7_E => "BIT 7,E" | .bit_7_H => "BIT 7,H" | .bit_7_L => "BIT 7,L"
  | .bit_7_indHL => "BIT 7,(HL)" | .bit_7_A => "BIT 7,A"
  | .unknown _ | .unknownCb _ => "UNKNOWN"

/-- The cost of each instruction by the table of R335; a conditional transfer's depends on whether its condition holds. Written
from the table row by row, not from the meanings; an UNKNOWN descriptor completes no step, so it has no cost. -/
def cyclesOf (c : CycleTable) (f : Flags) : Instr → Nat
  | .nop => c.nop
  | .ld_BC_d16 | .ld_DE_d16 | .ld_HL_d16 | .ld_SP_d16 => c.ldRrD16
  | .ld_indBC_A | .ld_indDE_A => c.ldRrA
  | .inc_BC | .dec_BC | .inc_DE | .dec_DE | .inc_HL | .dec_HL | .inc_SP | .dec_SP => c.incdecRr
  | .inc_B | .dec_B | .inc_C | .dec_C | .inc_D | .dec_D | .inc_E | .dec_E | .inc_H | .dec_H | .inc_L | .dec_L
  | .inc_A | .dec_A => c.incdecR
  | .ld_B_d8 | .ld_C_d8 | .ld_D_d8 | .ld_E_d8 | .ld_H_d8 | .ld_L_d8 | .ld_A_d8 => c.ldRD8
  | .rlca | .rrca | .rla | .rra => c.rotA
  | .ld_inda16_SP => c.ldA16Sp
  | .add_HL_BC | .add_HL_DE | .add_HL_HL | .add_HL_SP => c.addHlRr
  | .ld_A_indBC | .ld_A_indDE => c.ldARr
  | .jr_e8 => c.jrTaken
  | .jr_NZ_e8 => if f.holds .NZ then c.jrTaken else c.jrNotTaken
  | .ld_indHLinc_A => c.ldHliA
  | .jr_Z_e8 => if f.holds .Z then c.jrTaken else c.jrNotTaken
  | .ld_A_indHLinc => c.ldAHli
  | .jr_NC_e8 => if f.holds .NC then c.jrTaken else c.jrNotTaken
  | .ld_indHLdec_A => c.ldHldA
  | .inc_indHL | .dec_indHL => c.incdecHl
  | .ld_indHL_d8 => c.ldHlD8
  | .jr_C_e8 => if f.holds .C then c.jrTaken else c.jrNotTaken
  | .ld_A_indHLdec => c.ldAHld
  | .ld_B_B | .ld_B_C | .ld_B_D | .ld_B_E | .ld_B_H | .ld_B_L | .ld_B_A | .ld_C_B | .ld_C_C | .ld_C_D | .ld_C_E
  | .ld_C_H | .ld_C_L | .ld_C_A | .ld_D_B | .ld_D_C | .ld_D_D | .ld_D_E | .ld_D_H | .ld_D_L | .ld_D_A | .ld_E_B
  | .ld_E_C | .ld_E_D | .ld_E_E | .ld_E_H | .ld_E_L | .ld_E_A | .ld_H_B | .ld_H_C | .ld_H_D | .ld_H_E | .ld_H_H
  | .ld_H_L | .ld_H_A | .ld_L_B | .ld_L_C | .ld_L_D | .ld_L_E | .ld_L_H | .ld_L_L | .ld_L_A | .ld_A_B | .ld_A_C
  | .ld_A_D | .ld_A_E | .ld_A_H | .ld_A_L | .ld_A_A => c.ldRR
  | .ld_B_indHL | .ld_C_indHL | .ld_D_indHL | .ld_E_indHL | .ld_H_indHL | .ld_L_indHL | .ld_A_indHL => c.ldRHl
  | .ld_indHL_B | .ld_indHL_C | .ld_indHL_D | .ld_indHL_E | .ld_indHL_H | .ld_indHL_L | .ld_indHL_A => c.ldHlR
  | .halt => c.halt
  | .add_A_B | .add_A_C | .add_A_D | .add_A_E | .add_A_H | .add_A_L | .add_A_A | .adc_A_B | .adc_A_C | .adc_A_D
  | .adc_A_E | .adc_A_H | .adc_A_L | .adc_A_A | .sub_A_B | .sub_A_C | .sub_A_D | .sub_A_E | .sub_A_H | .sub_A_L
  | .sub_A_A | .sbc_A_B | .sbc_A_C | .sbc_A_D | .sbc_A_E | .sbc_A_H | .sbc_A_L | .sbc_A_A | .and_A_B | .and_A_C
  | .and_A_D | .and_A_E | .and_A_H | .and_A_L | .and_A_A | .xor_A_B | .xor_A_C | .xor_A_D | .xor_A_E | .xor_A_H
  | .xor_A_L | .xor_A_A | .or_A_B | .or_A_C | .or_A_D | .or_A_E | .or_A_H | .or_A_L | .or_A_A | .cp_A_B
  | .cp_A_C | .cp_A_D | .cp_A_E | .cp_A_H | .cp_A_L | .cp_A_A => c.aluR
  | .add_A_indHL | .adc_A_indHL | .sub_A_indHL | .sbc_A_indHL | .and_A_indHL | .xor_A_indHL | .or_A_indHL
  | .cp_A_indHL => c.aluHl
  | .ret_NZ => if f.holds .NZ then c.retCcTaken else c.retCcNotTaken
  | .pop_BC | .pop_DE | .pop_HL | .pop_AF => c.pop
  | .jp_NZ_a16 => if f.holds .NZ then c.jpTaken else c.jpNotTaken
  | .jp_a16 => c.jpTaken
  | .call_NZ_a16 => if f.holds .NZ then c.callTaken else c.callNotTaken
  | .push_BC | .push_DE | .push_HL | .push_AF => c.push
  | .add_A_d8 | .adc_A_d8 | .sub_A_d8 | .sbc_A_d8 | .and_A_d8 | .xor_A_d8 | .or_A_d8 | .cp_A_d8 => c.aluD8
  | .ret_Z => if f.holds .Z then c.retCcTaken else c.retCcNotTaken
  | .ret => c.ret
  | .jp_Z_a16 => if f.holds .Z then c.jpTaken else c.jpNotTaken
  | .call_Z_a16 => if f.holds .Z then c.callTaken else c.callNotTaken
  | .call_a16 => c.callTaken
  | .ret_NC => if f.holds .NC then c.retCcTaken else c.retCcNotTaken
  | .jp_NC_a16 => if f.holds .NC then c.jpTaken else c.jpNotTaken
  | .call_NC_a16 => if f.holds .NC then c.callTaken else c.callNotTaken
  | .ret_C => if f.holds .C then c.retCcTaken else c.retCcNotTaken
  | .jp_C_a16 => if f.holds .C then c.jpTaken else c.jpNotTaken
  | .call_C_a16 => if f.holds .C then c.callTaken else c.callNotTaken
  | .ldh_inda8_A => c.ldhA8A
  | .ld_indC_A => c.ldCA
  | .jp_HL => c.jpHl
  | .ld_inda16_A => c.ldA16A
  | .ldh_A_inda8 => c.ldhAA8
  | .ld_A_indC => c.ldAC
  | .ld_SP_HL => c.ldSpHl
  | .ld_A_inda16 => c.ldAA16
  | .rlc_B | .rlc_C | .rlc_D | .rlc_E | .rlc_H | .rlc_L | .rlc_A | .rrc_B | .rrc_C | .rrc_D | .rrc_E | .rrc_H
  | .rrc_L | .rrc_A | .rl_B | .rl_C | .rl_D | .rl_E | .rl_H | .rl_L | .rl_A | .rr_B | .rr_C | .rr_D | .rr_E
  | .rr_H | .rr_L | .rr_A => c.cbRotR
  | .rlc_indHL | .rrc_indHL | .rl_indHL | .rr_indHL => c.cbRotHl
  | .bit_0_B | .bit_0_C | .bit_0_D | .bit_0_E | .bit_0_H | .bit_0_L | .bit_0_A | .bit_1_B | .bit_1_C | .bit_1_D
  | .bit_1_E | .bit_1_H | .bit_1_L | .bit_1_A | .bit_2_B | .bit_2_C | .bit_2_D | .bit_2_E | .bit_2_H | .bit_2_L
  | .bit_2_A | .bit_3_B | .bit_3_C | .bit_3_D | .bit_3_E | .bit_3_H | .bit_3_L | .bit_3_A | .bit_4_B | .bit_4_C
  | .bit_4_D | .bit_4_E | .bit_4_H | .bit_4_L | .bit_4_A | .bit_5_B | .bit_5_C | .bit_5_D | .bit_5_E | .bit_5_H
  | .bit_5_L | .bit_5_A | .bit_6_B | .bit_6_C | .bit_6_D | .bit_6_E | .bit_6_H | .bit_6_L | .bit_6_A | .bit_7_B
  | .bit_7_C | .bit_7_D | .bit_7_E | .bit_7_H | .bit_7_L | .bit_7_A => c.cbBitR
  | .bit_0_indHL | .bit_1_indHL | .bit_2_indHL | .bit_3_indHL | .bit_4_indHL | .bit_5_indHL | .bit_6_indHL
  | .bit_7_indHL => c.cbBitHl
  | .unknown _ | .unknownCb _ => 0

/-- The execution result of R253. A halted step has no instruction and costs 0 (R252). -/
structure StepReport where
  instr : Option Instr
  mnemonic : String
  length : Nat
  cycles : Nat
  pulse : Option Pulse
  deriving DecidableEq, Repr

/-- What a completed step from this state reports; nothing if it faults (R292) or the machine has stopped (R250). -/
def State.report (s : State) : Option StepReport :=
  match s.fault, s.run with
  | some _, _ => none
  | none, .halted => some ⟨none, "", 0, 0, none⟩
  | none, .running =>
    match s.fetchInstr with
    | .error _ => none
    | .ok i =>
      match exec i s with
      | .next _ =>
        let cycles := cyclesOf s.cfg.cyc s.flags i
        some ⟨some i, mnemonicOf i, i.length, cycles, s.gpu.pulse cycles⟩
      | .fault _ => none
      | .refused _ => none

end Sys2Proof.Machine
end

