-- ==== Sys2Proof/Safety.lean ====
section
/-! DEFINITION. What the claims call a sound state, sound parameters, and the end of a run. -/

namespace Sys2Proof.Machine

/-- The two ranges have no address in common. -/
def disjoint (a b : Span) : Bool := decide (a.last < b.first) || decide (b.last < a.first)

/-- A range of addresses of the 16-bit space. -/
def spanOk (a : Span) : Bool := decide (a.first ≤ a.last) && decide (a.last ≤ 0xFFFF)

/-- What every instantiation of REGIONS must keep (R52): five contiguous ranges, pairwise disjoint, and BOOT inside ROM0. -/
def regionsOk (r : Regions) : Bool :=
  ([r.rom0, r.vram, r.wram, r.io, r.hram].all spanOk) &&
  (disjoint r.rom0 r.vram && disjoint r.rom0 r.wram && disjoint r.rom0 r.io && disjoint r.rom0 r.hram) &&
  (disjoint r.vram r.wram && disjoint r.vram r.io && disjoint r.vram r.hram) &&
  (disjoint r.wram r.io && disjoint r.wram r.hram && disjoint r.io r.hram) &&
  (decide (r.rom0.first = 0) && decide (bootLast ≤ r.rom0.last))

/-- An array is in canonical form and lists no place past its region's end. -/
def arrayOk (size : Nat) (m : Memory) : Bool := m.wf && m.within size

/-- Every array of the state is (R38, R52). -/
def State.arraysOk (s : State) : Bool :=
  arrayOk bootSize s.boot && arrayOk (spanSize s.cfg.regions.rom0) s.rom0 && arrayOk (spanSize s.cfg.regions.vram) s.vram &&
  arrayOk (spanSize s.cfg.regions.wram) s.wram && arrayOk (spanSize s.cfg.regions.hram) s.hram

/-- The invariants of the graphics unit (R278): the counter is below the mode's threshold, and the line number says whether
the mode is VBlank. -/
def Gpu.ok (g : Gpu) : Bool :=
  decide (g.ctr < g.mode.threshold) &&
  (match g.mode with
   | .vblank => decide (lineVblank ≤ g.line) && decide (g.line ≤ lineLast)
   | .oamScan => decide (g.line < lineVblank)
   | .vramScan => decide (g.line < lineVblank)
   | .hblank => decide (g.line < lineVblank))

/-- A sound state: canonical arrays, the graphics invariants, and a cycle counter that fits CLK_W bits. -/
abbrev State.Inv (s : State) : Prop :=
  s.arraysOk = true ∧ s.gpu.ok = true ∧ s.clk < 2 ^ s.cfg.clkW

/-- A run has ended (R259): no step can change the state. -/
abbrev State.ended (s : State) : Prop := s.run = .halted ∨ s.fault ≠ none

/-- The address selects a region (R53, R54). -/
abbrev State.mapped (s : State) (a : Word) : Prop := s.region a ≠ none

/-- The address selects VRAM, WRAM or HRAM: a write to it is stored (R59). -/
abbrev State.isRam (s : State) (a : Word) : Prop :=
  s.region a = some .vram ∨ s.region a = some .wram ∨ s.region a = some .hram

end Sys2Proof.Machine
end

