-- ==== Sys2Proof/Certificates/Slice0/Obligations.lean ====
section
/-! DEFINITION. The statements for the provers. `Claims` holds the vocabulary: it says the spec's rules in explicit numbers
wherever the model uses a function of its own. Each docstring names the rules; "D<n>" marks what the spec itself decided. -/

namespace Sys2Proof.Claims

open Sys2Proof.Machine

/-- The end of an instruction: PC is `pc`, the cost is added to the cycle counter modulo 2^CLK_W, and the graphics unit advances
by it (R26, R33, R251). Every other element is that of `s`. -/
def done (s : State) (pc : Word) (cost : Nat) : State :=
  { s with pc := pc, clk := (s.clk + cost) % 2 ^ s.cfg.clkW, gpu := s.gpu.advance cost }

/-- The word with this high byte and this low byte. -/
def wordOf (hi lo : Byte) : Word := BitVec.ofNat 16 (hi.toNat * 256 + lo.toNat)

/-- Bits 15 to 8 of a word. -/
def highOf (v : Word) : Byte := BitVec.ofNat 8 (v.toNat / 256)

/-- Bits 7 to 0 of a word. -/
def lowOf (v : Word) : Byte := BitVec.ofNat 8 v.toNat

/-- What a read of address `b` gives after these bytes were written to these (distinct) addresses: the byte, where its region is
VRAM, WRAM or HRAM, and what `s` reads everywhere else (R56 to R60). -/
def readAfter (s : State) : List (Word × Byte) → Word → Except Fault Byte
  | [], b => s.memRead b
  | (a, v) :: ws, b => if b = a ∧ s.isRam a then .ok v else readAfter s ws b

/-- `t` is `s` after exactly these writes: no element but the RAM arrays differs, and every address reads accordingly. -/
structure Wrote (s : State) (ws : List (Word × Byte)) (t : State) : Prop where
  onlyRam : t = { s with vram := t.vram, wram := t.wram, hram := t.hram }
  reads : ∀ b, t.memRead b = readAfter s ws b

/-- What a step makes of the outcome of the instruction it ran: a raised fault latches in the state before the step (R292). -/
def afterExec (s : State) : Result → Result
  | .next t => .next t
  | .fault f => .next { s with fault := some f }
  | .refused r => .refused r

/-- The operand, length and cost of each arithmetic form (R120). -/
def aluForm (s : State) : Src8 → Except Fault Byte × Word × Nat
  | .reg r => (.ok (s.reg r), 1, s.cfg.cyc.aluR)
  | .indHL => (s.memRead (wordOf s.regs.h s.regs.l), 1, s.cfg.cyc.aluHl)
  | .d8 => (s.memRead (s.pc + 1), 2, s.cfg.cyc.aluD8)

/-- The shape of R121 to R128: with the operand's value `v`, the instruction completes, its effect on the registers and flags is
`effect`, PC and the cost are those of the form, nothing else changes; if the operand cannot be read, that fault is raised. -/
def AluDoes (op : AluOp) (effect : Regs → Flags → Byte → Regs × Flags) : Prop :=
  ∀ (s : State) (x : Src8),
    (∀ v, (aluForm s x).1 = .ok v →
      exec (Instr.alu op x) s =
        .next (done { s with regs := (effect s.regs s.flags v).1, flags := (effect s.regs s.flags v).2 }
          (s.pc + (aluForm s x).2.1) (aluForm s x).2.2)) ∧
    (∀ f, (aluForm s x).1 = .error f → exec (Instr.alu op x) s = .fault f)

/-- The shape of R140 to R143: the register form changes one register, the (HL) form writes one byte; `flagsOf` gives the flags
from the value before the operation and from the flags before it. -/
def IncDecDoes (instr : Loc8 → Instr) (delta : Byte) (flagsOf : Byte → Flags → Flags) : Prop :=
  ∀ s : State,
    (∀ r : Reg8,
      exec (instr (.reg r)) s =
        .next (done { s with regs := s.regs.set r (s.reg r + delta), flags := flagsOf (s.reg r) s.flags }
          (s.pc + 1) s.cfg.cyc.incdecR)) ∧
    (∀ old, s.arraysOk = true → s.memRead (wordOf s.regs.h s.regs.l) = .ok old →
      ∃ u, Wrote s [(wordOf s.regs.h s.regs.l, old + delta)] u ∧
        exec (instr .indHL) s = .next (done { u with flags := flagsOf old s.flags } (s.pc + 1) s.cfg.cyc.incdecHl)) ∧
    (∀ f, s.memRead (wordOf s.regs.h s.regs.l) = .error f → exec (instr .indHL) s = .fault f)

/-- `Imm16()` gives `w`: low byte at PC+1, high byte at PC+2 (R11, R98, D9). -/
def ImmWord (s : State) (w : Word) : Prop :=
  ∃ lo hi, s.memRead (s.pc + 1) = .ok lo ∧ s.memRead (s.pc + 2) = .ok hi ∧ w = wordOf hi lo

/-- `Imm16()` raises `f`: the first byte that cannot be read (R293). -/
def ImmWordFault (s : State) (f : Fault) : Prop :=
  s.memRead (s.pc + 1) = .error f ∨ ∃ lo, s.memRead (s.pc + 1) = .ok lo ∧ s.memRead (s.pc + 2) = .error f

/-- The stack's top word is `w`: low byte at SP, high byte at SP+1 (R193). -/
def StackWord (s : State) (w : Word) : Prop :=
  ∃ lo hi, s.memRead s.sp = .ok lo ∧ s.memRead (s.sp + 1) = .ok hi ∧ w = wordOf hi lo

/-- Reading it raises `f`. -/
def StackFault (s : State) (f : Fault) : Prop :=
  s.memRead s.sp = .error f ∨ ∃ lo, s.memRead s.sp = .ok lo ∧ s.memRead (s.sp + 1) = .error f

/-- The two stack writes of PUSH and CALL (R193): with both addresses mapped the instruction completes as `finish` says of the
state with the high byte at SP-1, the low byte at SP-2 and SP down by 2; else the first unmapped address faults. -/
def PushDoes (s : State) (hi lo : Byte) (instr : Instr) (pc : Word) (cost : Nat) : Prop :=
  (s.arraysOk = true → s.mapped (s.sp - 1) → s.mapped (s.sp - 2) →
    ∃ u, Wrote s [(s.sp - 1, hi), (s.sp - 2, lo)] u ∧ exec instr s = .next (done { u with sp := s.sp - 2 } pc cost)) ∧
  (¬ s.mapped (s.sp - 1) → exec instr s = .fault (.unmappedAccess (s.sp - 1))) ∧
  (s.mapped (s.sp - 1) → ¬ s.mapped (s.sp - 2) → exec instr s = .fault (.unmappedAccess (s.sp - 2)))

/-- The rotate of R231 in numbers, on a byte and an incoming bit: one bit moves out, the incoming bit takes the vacated place. -/
def rotated (v : Byte) (left : Bool) (inBit : Bool) : Byte :=
  if left then BitVec.ofNat 8 (v.toNat * 2 + inBit.toNat) else BitVec.ofNat 8 (v.toNat / 2 + inBit.toNat * 128)

/-- The bit a rotate shifts out: bit 7 to the left, bit 0 to the right (R231). -/
def shiftedOut (v : Byte) (left : Bool) : Bool :=
  if left then decide (128 ≤ v.toNat) else decide (v.toNat % 2 = 1)

/-- Direction of each prefixed rotate, left is true (R237 to R240). -/
def rotLeft : RotOp → Bool
  | .rlc => true
  | .rl => true
  | .rrc => false
  | .rr => false

/-- What enters the vacated bit (R231): the bit shifted out for the wrapping rotates, the carry for the others. -/
def rotIn (k : RotOp) (v : Byte) (carry : Bool) : Bool :=
  match k with
  | .rlc => shiftedOut v true
  | .rrc => shiftedOut v false
  | .rl => carry
  | .rr => carry

/-- The result of a prefixed rotate. -/
def rotResult (k : RotOp) (v : Byte) (carry : Bool) : Byte := rotated v (rotLeft k) (rotIn k v carry)

/-- The flags of a prefixed rotate (D11): z from the result, n and h cleared, c the bit shifted out. -/
def rotFlags (k : RotOp) (v : Byte) (carry : Bool) : Flags :=
  ⟨decide (rotResult k v carry = 0), false, false, shiftedOut v (rotLeft k)⟩

/-- One 8-bit transfer between a register and memory: its instruction, the register, the memory operand, the length and cost. -/
structure MemoryForm where
  instr : Instr
  register : Reg8
  operand : MemOperand
  length : Word
  cost : Nat
  deriving DecidableEq, Repr

/-- Every load of a register from memory (R163, R166, R167, R172, R173, R175, R177, R179): instruction, destination, operand, length
and cost. -/
def memoryLoads (c : CycleTable) : List MemoryForm :=
  [⟨.ld_A_indHL, .A, .indHL, 1, c.ldRHl⟩, ⟨.ld_B_indHL, .B, .indHL, 1, c.ldRHl⟩, ⟨.ld_C_indHL, .C, .indHL, 1, c.ldRHl⟩,
   ⟨.ld_D_indHL, .D, .indHL, 1, c.ldRHl⟩, ⟨.ld_E_indHL, .E, .indHL, 1, c.ldRHl⟩, ⟨.ld_H_indHL, .H, .indHL, 1, c.ldRHl⟩,
   ⟨.ld_L_indHL, .L, .indHL, 1, c.ldRHl⟩,
   ⟨.ld_A_indBC, .A, .indBC, 1, c.ldARr⟩, ⟨.ld_A_indDE, .A, .indDE, 1, c.ldARr⟩,
   ⟨.ld_A_indHLinc, .A, .indHLinc, 1, c.ldAHli⟩, ⟨.ld_A_indHLdec, .A, .indHLdec, 1, c.ldAHld⟩,
   ⟨.ldh_A_inda8, .A, .inda8, 2, c.ldhAA8⟩, ⟨.ld_A_indC, .A, .indC, 1, c.ldAC⟩, ⟨.ld_A_inda16, .A, .inda16, 3, c.ldAA16⟩]

/-- Every store of a register's byte (R164, R168 to R171, R174, R176, R178): instruction, source, operand, length and cost. -/
def memoryStores (c : CycleTable) : List MemoryForm :=
  [⟨.ld_indHL_A, .A, .indHL, 1, c.ldHlR⟩, ⟨.ld_indHL_B, .B, .indHL, 1, c.ldHlR⟩, ⟨.ld_indHL_C, .C, .indHL, 1, c.ldHlR⟩,
   ⟨.ld_indHL_D, .D, .indHL, 1, c.ldHlR⟩, ⟨.ld_indHL_E, .E, .indHL, 1, c.ldHlR⟩, ⟨.ld_indHL_H, .H, .indHL, 1, c.ldHlR⟩,
   ⟨.ld_indHL_L, .L, .indHL, 1, c.ldHlR⟩,
   ⟨.ld_indBC_A, .A, .indBC, 1, c.ldRrA⟩, ⟨.ld_indDE_A, .A, .indDE, 1, c.ldRrA⟩,
   ⟨.ld_indHLinc_A, .A, .indHLinc, 1, c.ldHliA⟩, ⟨.ld_indHLdec_A, .A, .indHLdec, 1, c.ldHldA⟩,
   ⟨.ldh_inda8_A, .A, .inda8, 2, c.ldhA8A⟩, ⟨.ld_indC_A, .A, .indC, 1, c.ldCA⟩, ⟨.ld_inda16_A, .A, .inda16, 3, c.ldA16A⟩]

/-- The registers after a load's or store's post-effect: only (HL+) and (HL-) have one (R170 to R173). -/
def afterPost (m : MemOperand) (addr : Word) (r : Regs) : Regs :=
  match m with
  | .indHLinc => { r with h := highOf (addr + 1), l := lowOf (addr + 1) }
  | .indHLdec => { r with h := highOf (addr - 1), l := lowOf (addr - 1) }
  | .indBC => r
  | .indDE => r
  | .indHL => r
  | .indC => r
  | .inda8 => r
  | .inda16 => r

/-- A 16-bit register operand written with `v` (R22, R94). -/
def with16 (s : State) (x : Reg16) (v : Word) : State :=
  match x with
  | .BC => { s with regs := { s.regs with b := highOf v, c := lowOf v } }
  | .DE => { s with regs := { s.regs with d := highOf v, e := lowOf v } }
  | .HL => { s with regs := { s.regs with h := highOf v, l := lowOf v } }
  | .SP => { s with sp := v }

/-- A 16-bit register operand read (R22, R94). -/
def value16 (s : State) : Reg16 → Word
  | .BC => wordOf s.regs.b s.regs.c
  | .DE => wordOf s.regs.d s.regs.e
  | .HL => wordOf s.regs.h s.regs.l
  | .SP => s.sp

/-- The state with its timing parts blanked: the cycle counter, the graphics state, the cycle table and CLK_W (R335). -/
def untimed (s : State) : State :=
  { s with clk := 0, gpu := ⟨.hblank, 0, 0⟩, cfg := { s.cfg with cyc := defaultCycles, clkW := 0 } }

/-- The same kind of outcome: next states that agree but for timing, or the same fault, or the same refusal. -/
def sameButTiming : Result → Result → Prop
  | .next t, .next t' => untimed t = untimed t'
  | .fault f, .fault f' => f = f'
  | .refused r, .refused r' => r = r'
  | .next _, .fault _ => False
  | .next _, .refused _ => False
  | .fault _, .next _ => False
  | .fault _, .refused _ => False
  | .refused _, .next _ => False
  | .refused _, .fault _ => False

/-- One scanline's three advances of exact length (R279). -/
def lineOfAdvances (g : Gpu) : Gpu := ((g.advance 80).advance 172).advance 204

end Sys2Proof.Claims

open Sys2Proof Sys2Proof.Machine Sys2Proof.Claims

/-! ## The step -/

/-- R251, R62: a running machine without a fault fetches the byte at PC, and the byte after it if that is 0xCB, decodes by the base
or the extended table, and executes; a raised fault latches (R292, D17; log 1). -/
def Obligations.StepRunsTheDecodedInstruction : Prop :=
  ∀ s : State, s.fault = none → s.run = .running →
    (∀ op, s.memRead s.pc = .ok op → op ≠ 0xCB → step s = afterExec s (exec (decodeBase op) s)) ∧
    (∀ op2, s.memRead s.pc = .ok 0xCB → s.memRead (s.pc + 1) = .ok op2 →
      step s = afterExec s (exec (decodeExtended op2) s))

/-- R91, R98, R251: when the bytes of a well-formed complete instruction lie at PC, the step executes that instruction, and the
immediate it reads is the encoded one. -/
def Obligations.StepRunsTheEncodedInstruction : Prop :=
  ∀ (s : State) (i : Insn), s.fault = none → s.run = .running → i.wf = true →
    (∀ k v, (encode i)[k]? = some v → s.memRead (s.pc + BitVec.ofNat 16 k) = .ok v) →
    step s = afterExec s (exec i.op s) ∧
    (∀ v, i.imm = .byte v → s.imm8 = .ok v) ∧ (∀ w, i.imm = .word w → s.imm16 = .ok w)

/-- R34, R250, R251, R292, R293: a fetch that meets an unmapped address latches that fault; a step that raises a fault changes nothing
but the latch; once the latch is set there is no step and nothing is reported (log 1). -/
def Obligations.FaultsLatchAndStop : Prop :=
  (∀ s : State, s.fault = none → s.run = .running →
    (¬ s.mapped s.pc → step s = .next { s with fault := some (.unmappedAccess s.pc) }) ∧
    (s.memRead s.pc = .ok 0xCB → ¬ s.mapped (s.pc + 1) →
      step s = .next { s with fault := some (.unmappedAccess (s.pc + 1)) })) ∧
  (∀ (s t : State) (f : Fault), step s = .next t → s.fault = none → t.fault = some f →
    t = { s with fault := some f } ∧ s.run = .running) ∧
  (∀ (s : State) (f : Fault), s.fault = some f → step s = .fault f ∧ s.report = none)

/-- R252: a halted machine's step changes nothing and reports zero cycles and no instruction; advancing the graphics unit by 0
would change nothing either. -/
def Obligations.HaltedStepChangesNothing : Prop :=
  ∀ s : State, s.fault = none → s.run = .halted →
    step s = .next s ∧ s.report = some ⟨none, "", 0, 0, none⟩ ∧ (s.gpu.ok = true → s.gpu.advance 0 = s.gpu)

/-- R258, R290, R291: a step raises only an unmapped access, whose address selects no region, or an unknown opcode at the
instruction's own PC; a table mismatch and a wrong image are never raised by a step, and no step refuses. -/
def Obligations.StepRaisesOnlyTwoFaults : Prop :=
  ∀ s : State, s.fault = none →
    ∃ t, step s = .next t ∧
      (t.fault = none ∨ (∃ a, t.fault = some (.unmappedAccess a) ∧ ¬ s.mapped a) ∨
        (∃ o, t.fault = some (.unknownOpcode o s.pc)))

/-- R32: a machine starts Running, only HALT makes it Halted, and no step leaves Halted: only a reset, a new construction, gives a
Running machine again. -/
def Obligations.OnlyHaltLeavesRunning : Prop :=
  State.reset.run = .running ∧ (∀ (k : Construction) (t : State), construct k = .next t → t.run = .running) ∧
  ∀ s t : State, step s = .next t →
    (s.run = .halted → t.run = .halted) ∧ (s.run = .running → t.run = .halted → s.fetchInstr = .ok .halt)

/-- R35, R38, R57, R58, R67: no step changes boot_active, the boot overlay, ROM bank 0, or the construction parameters (log 2, 6). -/
def Obligations.StepKeepsImagesAndParameters : Prop :=
  ∀ s t : State, step s = .next t →
    t.bootActive = s.bootActive ∧ t.boot = s.boot ∧ t.rom0 = s.rom0 ∧ t.cfg = s.cfg

/-- R33, R251, R280, R335: whatever instruction completes, its cost by the table is added to the cycle counter and is what the graphics
unit advances by. -/
def Obligations.EveryInstructionAccountsItsCost : Prop :=
  ∀ (i : Instr) (s t : State), exec i s = .next t →
    t.clk = (s.clk + cyclesOf s.cfg.cyc s.flags i) % 2 ^ s.cfg.clkW ∧
    t.gpu = s.gpu.advance (cyclesOf s.cfg.cyc s.flags i)

/-- R335: no register, flag, PC, SP or memory value depends on the timing. Two machines that differ only in the cycle counter, the
graphics state, the cycle table and CLK_W still differ only there after any number of steps, or stop in the same way. -/
def Obligations.TimingReachesNothingElse : Prop :=
  ∀ (k : Nat) (s s' : State), untimed s = untimed s' →
    sameButTiming (Sys2Proof.core.run k s) (Sys2Proof.core.run k s')

/-! ## Invariants, reset, construction -/

/-- The invariant of `State.Inv` (arrays canonical and in range, R278, CLK_W bits) is kept by every step from every state that has
it. -/
def Obligations.StepKeepsInvariant : Prop :=
  ∀ s t : State, s.Inv → step s = .next t → t.Inv

/-- It holds of the state after reset. -/
def Obligations.ResetHasInvariant : Prop := State.reset.Inv

/-- It holds of every machine that construction builds. -/
def Obligations.ConstructionHasInvariant : Prop :=
  ∀ (k : Construction) (t : State), construct k = .next t → t.Inv

/-- R39, R320, R7: the state after reset. Zero registers, flags, PC, SP, RAM, counter, and boot_active are the spec's own choices (D4,
D6, D7, D19, D29; log 4, 5, 6, 17, 18); the zero images are the model's choice (log 3). It is what construction builds from every
default and those images. -/
def Obligations.ResetState : Prop :=
  (∀ r, State.reset.reg r = 0x00) ∧ State.reset.flags.toByte = 0x00 ∧ State.reset.pc = 0x0000 ∧ State.reset.sp = 0x0000 ∧
  State.reset.run = .running ∧ State.reset.clk = 0 ∧ State.reset.fault = none ∧ State.reset.bootActive = true ∧
  State.reset.gpu = ⟨.hblank, 0, 0⟩ ∧
  (∀ a, State.reset.mapped a → State.reset.memRead a = .ok 0x00) ∧
  construct defaultConstruction = .next State.reset

/-- R320, R321 (D30): images of the right length build a machine with the inputs' values; a snapshot's F byte loses its low nibble. An
image of the wrong length builds none. RAM bytes past RAM_INIT's lists are 0x00 (log 7), and that the boot image is looked at first
is the model's choice (log 8). -/
def Obligations.ConstructionTakesItsInputs : Prop :=
  ∀ k : Construction,
    (k.bootImage.length = 256 → k.romImage.length = spanSize k.cfg.regions.rom0 →
      ∃ t, construct k = .next t ∧
        (∀ p, k.snapshot = some p →
          t.regs = ⟨p.a, p.b, p.c, p.d, p.e, p.h, p.l⟩ ∧ t.flags.toByte = p.f &&& 0xF0 ∧ t.pc = p.pc ∧ t.sp = p.sp) ∧
        (k.snapshot = none → t.regs = ⟨0, 0, 0, 0, 0, 0, 0⟩ ∧ t.flags.toByte = 0 ∧ t.pc = 0 ∧ t.sp = 0) ∧
        t.run = .running ∧ t.clk = 0 ∧ t.fault = none ∧ t.bootActive = k.bootActive ∧ t.gpu = ⟨.hblank, 0, 0⟩ ∧ t.cfg = k.cfg ∧
        (∀ (j : Nat) (v : Byte), k.bootImage[j]? = some v → Memory.get t.boot j = v) ∧
        (∀ (j : Nat) (v : Byte), k.romImage[j]? = some v → Memory.get t.rom0 j = v) ∧
        (∀ j, j < spanSize k.cfg.regions.vram → Memory.get t.vram j = (k.ramInit.vram[j]?).getD 0x00) ∧
        (∀ j, j < spanSize k.cfg.regions.wram → Memory.get t.wram j = (k.ramInit.wram[j]?).getD 0x00) ∧
        (∀ j, j < spanSize k.cfg.regions.hram → Memory.get t.hram j = (k.ramInit.hram[j]?).getD 0x00)) ∧
    (k.bootImage.length ≠ 256 → construct k = .fault (.bufferSize .boot)) ∧
    (k.bootImage.length = 256 → k.romImage.length ≠ spanSize k.cfg.regions.rom0 → construct k = .fault (.bufferSize .rom))

/-! ## Registers, flags, memory -/

/-- R28: the packed byte has z, n, h, c in bits 7, 6, 5, 4 and zeros below, flags survive the round trip through it, and a byte's low
nibble does not. -/
def Obligations.FlagsByteRoundTrip : Prop :=
  (∀ f : Flags, Flags.ofByte f.toByte = f ∧ f.toByte &&& 0x0F = 0 ∧
    f.toByte.getLsbD 7 = f.z ∧ f.toByte.getLsbD 6 = f.n ∧ f.toByte.getLsbD 5 = f.h ∧ f.toByte.getLsbD 4 = f.c) ∧
  (∀ v : Byte, (Flags.ofByte v).toByte = v &&& 0xF0)

/-- R22: a pair is the view high:low of two registers, with no storage of its own and no share in memory. -/
def Obligations.PairsAreViews : Prop :=
  ∀ (s : State) (v : Word) (x : Byte),
    s.pair .BC = wordOf s.regs.b s.regs.c ∧ s.pair .DE = wordOf s.regs.d s.regs.e ∧ s.pair .HL = wordOf s.regs.h s.regs.l ∧
    s.setPair .BC v = { s with regs := { s.regs with b := highOf v, c := lowOf v } } ∧
    s.setPair .DE v = { s with regs := { s.regs with d := highOf v, e := lowOf v } } ∧
    s.setPair .HL v = { s with regs := { s.regs with h := highOf v, l := lowOf v } } ∧
    (∀ p, (s.setPair p v).pair p = v) ∧
    (s.setReg .B x).pair .BC = wordOf x s.regs.c ∧
    (∀ p a, (s.setPair p v).memRead a = s.memRead a)

/-- R53: an address selects BOOT while that is active and the address is at most 0x00FF, else the one region whose range holds it,
else none. For every instantiation of REGIONS that R52 allows. -/
def Obligations.DispatchIsARangeMatch : Prop :=
  ∀ (s : State) (a : Word), regionsOk s.cfg.regions = true →
    (s.bootActive = true ∧ a.toNat ≤ 0x00FF → s.region a = some .boot) ∧
    (¬ (s.bootActive = true ∧ a.toNat ≤ 0x00FF) →
      (s.region a = some .rom0 ↔ s.cfg.regions.rom0.first ≤ a.toNat ∧ a.toNat ≤ s.cfg.regions.rom0.last) ∧
      (s.region a = some .vram ↔ s.cfg.regions.vram.first ≤ a.toNat ∧ a.toNat ≤ s.cfg.regions.vram.last) ∧
      (s.region a = some .wram ↔ s.cfg.regions.wram.first ≤ a.toNat ∧ a.toNat ≤ s.cfg.regions.wram.last) ∧
      (s.region a = some .io ↔ s.cfg.regions.io.first ≤ a.toNat ∧ a.toNat ≤ s.cfg.regions.io.last) ∧
      (s.region a = some .hram ↔ s.cfg.regions.hram.first ≤ a.toNat ∧ a.toNat ≤ s.cfg.regions.hram.last) ∧
      s.region a ≠ some .boot)

/-- R52, R54 (D3, D22): with the default REGIONS exactly 0x4000-0x7FFF, 0xA000-0xBFFF, 0xE000-0xFEFF and 0xFFFF are unmapped. -/
def Obligations.DefaultUnmappedAddresses : Prop :=
  regionsOk defaultRegions = true ∧
  ∀ (s : State) (a : Word), s.cfg.regions = defaultRegions →
    (¬ s.mapped a ↔
      (0x4000 ≤ a.toNat ∧ a.toNat ≤ 0x7FFF) ∨ (0xA000 ≤ a.toNat ∧ a.toNat ≤ 0xBFFF) ∨
      (0xE000 ≤ a.toNat ∧ a.toNat ≤ 0xFEFF) ∨ a.toNat = 0xFFFF)

/-- R54, R55, R57, R60: a read gives the selected array's byte, 0x00 in the IO window; a write to ROM0 or to the IO window changes nothing
and raises nothing; reads and writes of an unmapped address raise. -/
def Obligations.AccessesFollowDispatch : Prop :=
  ∀ (s : State) (a : Word) (v : Byte),
    (s.region a = some .boot → s.memRead a = .ok (Memory.get s.boot a.toNat)) ∧
    (s.region a = some .rom0 →
      s.memRead a = .ok (Memory.get s.rom0 (a.toNat - s.cfg.regions.rom0.first)) ∧ s.memWrite a v = .ok s) ∧
    (s.region a = some .vram → s.memRead a = .ok (Memory.get s.vram (a.toNat - s.cfg.regions.vram.first))) ∧
    (s.region a = some .wram → s.memRead a = .ok (Memory.get s.wram (a.toNat - s.cfg.regions.wram.first))) ∧
    (s.region a = some .io → s.memRead a = .ok 0x00 ∧ s.memWrite a v = .ok s) ∧
    (s.region a = some .hram → s.memRead a = .ok (Memory.get s.hram (a.toNat - s.cfg.regions.hram.first))) ∧
    (s.region a = none → s.memRead a = .error (.unmappedAccess a) ∧ s.memWrite a v = .error (.unmappedAccess a))

/-- R56, R58, R59: a write to a mapped address completes; a later read of any address gives the written byte at that address if it is
VRAM, WRAM or HRAM, and what it gave before everywhere else. -/
def Obligations.WriteThenReadAnyAddress : Prop :=
  ∀ (s : State) (a : Word) (v : Byte), s.arraysOk = true → s.mapped a →
    ∃ t, s.memWrite a v = .ok t ∧ Wrote s [(a, v)] t

/-- R193: Push16 writes the high byte at SP-1 and the low byte at SP-2 and moves SP down by 2; Pop16 gives the word at SP, low byte first,
and moves SP up by 2; a word pushed onto read-write memory is popped again, with SP back where it was. -/
def Obligations.StackPrimitives : Prop :=
  ∀ (s : State) (v : Word),
    (s.arraysOk = true → s.mapped (s.sp - 1) → s.mapped (s.sp - 2) →
      ∃ u, Wrote s [(s.sp - 1, highOf v), (s.sp - 2, lowOf v)] u ∧ s.push16 v = .ok { u with sp := s.sp - 2 } ∧
        (s.isRam (s.sp - 1) → s.isRam (s.sp - 2) → State.pop16 { u with sp := s.sp - 2 } = .ok (v, u))) ∧
    (∀ w, StackWord s w → s.pop16 = .ok (w, { s with sp := s.sp + 2 }))

/-- R195: PUSH BC then POP HL leaves HL = old BC and SP = old SP, when the stack lies in read-write memory. -/
def Obligations.PushBcPopHlCopies : Prop :=
  ∀ s : State, s.arraysOk = true → s.isRam (s.sp - 1) → s.isRam (s.sp - 2) →
    ∃ t u, exec .push_BC s = .next t ∧ exec .pop_HL t = .next u ∧
      u.regs = { s.regs with h := s.regs.b, l := s.regs.c } ∧ u.sp = s.sp

/-! ## The graphics timing unit -/

/-- R271 to R275: `Advance` by the rule of each mode, and the pulses that R273 and R274 emit. -/
def Obligations.AdvanceFollowsTheModeRules : Prop :=
  ∀ (c l n : Nat),
    (Gpu.advance ⟨.oamScan, c, l⟩ n = if 80 ≤ c + n then ⟨.vramScan, 0, l⟩ else ⟨.oamScan, c + n, l⟩) ∧
    (Gpu.advance ⟨.vramScan, c, l⟩ n = if 172 ≤ c + n then ⟨.hblank, 0, l⟩ else ⟨.vramScan, c + n, l⟩) ∧
    (Gpu.pulse ⟨.vramScan, c, l⟩ n = if 172 ≤ c + n then some .scanlineDone else none) ∧
    (Gpu.advance ⟨.hblank, c, l⟩ n =
      if 204 ≤ c + n then (if l + 1 = 144 then ⟨.vblank, 0, l + 1⟩ else ⟨.oamScan, 0, l + 1⟩) else ⟨.hblank, c + n, l⟩) ∧
    (Gpu.pulse ⟨.hblank, c, l⟩ n = if 204 ≤ c + n ∧ l + 1 = 144 then some .frameComplete else none) ∧
    (Gpu.advance ⟨.vblank, c, l⟩ n =
      if 456 ≤ c + n then (if 153 < l + 1 then ⟨.oamScan, 0, 0⟩ else ⟨.vblank, 0, l + 1⟩) else ⟨.vblank, c + n, l⟩) ∧
    (Gpu.pulse ⟨.oamScan, c, l⟩ n = none) ∧ (Gpu.pulse ⟨.vblank, c, l⟩ n = none)

/-- R278: `Advance` keeps the unit's invariants for every cost, and by 0 it is the identity. -/
def Obligations.AdvanceKeepsGraphicsInvariants : Prop :=
  ∀ (g : Gpu) (n : Nat), g.ok = true → (g.advance n).ok = true ∧ g.advance 0 = g

/-- R279: with exact hits, n lines from OamScan/0/0 lead to line n, the 144th to VBlank, and ten more threshold lengths back to
OamScan/0/0; from reset, HBlank's 204 come first and 143 lines follow. -/
def Obligations.ExactFrameTiming : Prop :=
  (∀ n, n < 144 → lineOfAdvances^[n] ⟨.oamScan, 0, 0⟩ = ⟨.oamScan, 0, n⟩) ∧
  lineOfAdvances^[144] ⟨.oamScan, 0, 0⟩ = ⟨.vblank, 0, 144⟩ ∧
  (∀ n, n < 10 → (fun g : Gpu => g.advance 456)^[n] ⟨.vblank, 0, 144⟩ = ⟨.vblank, 0, 144 + n⟩) ∧
  (fun g : Gpu => g.advance 456)^[10] ⟨.vblank, 0, 144⟩ = ⟨.oamScan, 0, 0⟩ ∧
  lineOfAdvances^[143] (State.reset.gpu.advance 204) = ⟨.vblank, 0, 144⟩

/-! ## Decoding -/

/-- R91, R98, R99: every sequence of well-formed complete instructions, encoded and followed by any bytes, decodes to itself, every
immediate included (opcode values: D2; little-endian words: D9). -/
def Obligations.DecodeManyOfEncodings : Prop :=
  ∀ (is : List Insn) (rest : List Byte), (∀ i ∈ is, i.wf = true) →
    decodeMany is.length (is.flatMap encode ++ rest) = .ok (is, rest)

/-- R90, R99, R106: what decodes is the encoding of a well-formed instruction, so no bit of a byte sequence is ignored. -/
def Obligations.EveryDecodingIsAnEncoding : Prop :=
  ∀ (bs rest : List Byte) (i : Insn), decodeInsn bs = .ok (i, rest) → i.wf = true ∧ encode i ++ rest = bs

/-- R101, R102, R103 (opcode numbers: D2; which bytes are UNKNOWN: D1): some words from the tables, one or more of each family.
A 16-bit word is read with the prefix 0xCB in its high half and the second byte in its low half: that numbering is read from R110 by
inference (DEDUCED, log 10), and the words 0xCB11, 0xCB7E and 0xCB30 rest on it. -/
def Obligations.ListedWordsDecode : Prop :=
  decodeTableWord 8 0x00 = some .nop ∧ decodeTableWord 8 0x76 = some .halt ∧
  decodeTableWord 8 0x86 = some .add_A_indHL ∧ decodeTableWord 8 0xFE = some .cp_A_d8 ∧
  decodeTableWord 8 0x35 = some .dec_indHL ∧ decodeTableWord 8 0x39 = some .add_HL_SP ∧
  decodeTableWord 8 0x41 = some .ld_B_C ∧ decodeTableWord 8 0x2A = some .ld_A_indHLinc ∧
  decodeTableWord 8 0xE2 = some .ld_indC_A ∧ decodeTableWord 8 0x08 = some .ld_inda16_SP ∧
  decodeTableWord 8 0xF5 = some .push_AF ∧ decodeTableWord 8 0xDC = some .call_C_a16 ∧
  decodeTableWord 8 0xE9 = some .jp_HL ∧ decodeTableWord 8 0x1F = some .rra ∧
  decodeTableWord 16 0xCB11 = some .rl_C ∧ decodeTableWord 16 0xCB7E = some .bit_7_indHL ∧
  decodeTableWord 8 0x10 = some (.unknown 0x10) ∧ decodeTableWord 16 0xCB30 = some (.unknownCb 0x30)

/-- R103, R104, R257 (D1): UNKNOWN stops with the opcode and the position in every state; the bytes that decode to it are the 29 of the
base table (the prefix aside) and the 160 of the extended table, and no other. -/
def Obligations.UnknownOpcodesFault : Prop :=
  (∀ (op : Byte) (s : State), exec (.unknown op) s = .fault (.unknownOpcode (.base op) s.pc)) ∧
  (∀ (op2 : Byte) (s : State), exec (.unknownCb op2) s = .fault (.unknownOpcode (.extended op2) s.pc)) ∧
  (∀ op : Byte, op ≠ 0xCB → (decodeBase op = .unknown op ↔ op ∈ unknownBase)) ∧ unknownBase.length = 29 ∧
  (∀ op2 : Byte, decodeExtended op2 = .unknownCb op2 ↔ (0x20 ≤ op2.toNat ∧ op2.toNat ≤ 0x3F) ∨ 0x80 ≤ op2.toNat)

/-! ## NOP and HALT -/

/-- R255, R256: NOP advances PC by one and has no other effect but its cost; HALT makes the machine Halted, and also moves PC past
itself and costs CYC[halt] (D15, log 19). -/
def Obligations.NopAdvancesAndHaltHalts : Prop :=
  ∀ s : State,
    exec .nop s = .next (done s (s.pc + 1) s.cfg.cyc.nop) ∧
    exec .halt s = .next (done { s with run := .halted } (s.pc + 1) s.cfg.cyc.halt)

/-! ## 8-bit arithmetic and logic (40_alu8.md) -/

/-- R120, R121. -/
def Obligations.AddAddsToA : Prop :=
  AluDoes .add fun r _ v =>
    ({ r with a := BitVec.ofNat 8 (r.a.toNat + v.toNat) },
     { z := decide ((r.a.toNat + v.toNat) % 256 = 0)
       n := false
       h := decide (r.a.toNat % 16 + v.toNat % 16 > 0xF)
       c := decide (r.a.toNat + v.toNat > 0xFF) })

/-- R120, R122. -/
def Obligations.AdcAddsCarryToo : Prop :=
  AluDoes .adc fun r f v =>
    ({ r with a := BitVec.ofNat 8 (r.a.toNat + v.toNat + f.c.toNat) },
     { z := decide ((r.a.toNat + v.toNat + f.c.toNat) % 256 = 0)
       n := false
       h := decide (r.a.toNat % 16 + v.toNat % 16 + f.c.toNat > 0xF)
       c := decide (r.a.toNat + v.toNat + f.c.toNat > 0xFF) })

/-- R120, R123. -/
def Obligations.SubSubtractsFromA : Prop :=
  AluDoes .sub fun r _ v =>
    ({ r with a := BitVec.ofNat 8 (r.a.toNat + 256 - v.toNat) },
     { z := decide (r.a = v)
       n := true
       h := decide (r.a.toNat % 16 < v.toNat % 16)
       c := decide (r.a.toNat < v.toNat) })

/-- R120, R124: the comparisons are over the integers. -/
def Obligations.SbcSubtractsCarryToo : Prop :=
  AluDoes .sbc fun r f v =>
    ({ r with a := BitVec.ofNat 8 (r.a.toNat + 512 - v.toNat - f.c.toNat) },
     { z := decide ((r.a.toNat + 512 - v.toNat - f.c.toNat) % 256 = 0)
       n := true
       h := decide (r.a.toNat % 16 < v.toNat % 16 + f.c.toNat)
       c := decide (r.a.toNat < v.toNat + f.c.toNat) })

/-- R120, R125, R126, R127: AND, XOR and OR of A with the operand. -/
def Obligations.LogicOnA : Prop :=
  AluDoes .and (fun r _ v =>
    ({ r with a := r.a &&& v }, { z := decide (r.a &&& v = 0), n := false, h := true, c := false })) ∧
  AluDoes .xor (fun r _ v =>
    ({ r with a := r.a ^^^ v }, { z := decide (r.a = v), n := false, h := false, c := false })) ∧
  AluDoes .or (fun r _ v =>
    ({ r with a := r.a ||| v }, { z := decide (r.a = 0 ∧ v = 0), n := false, h := false, c := false }))

/-- R120, R128: the flags of SUB, and no register is written. -/
def Obligations.CpOnlyCompares : Prop :=
  AluDoes .cp fun r _ v =>
    (r,
     { z := decide (r.a = v)
       n := true
       h := decide (r.a.toNat % 16 < v.toNat % 16)
       c := decide (r.a.toNat < v.toNat) })

/-- R129: carry and result together are the exact sum or difference. -/
def Obligations.CarryCompletesTheResult : Prop :=
  ∀ (s t : State) (x : Src8) (v : Byte), (aluForm s x).1 = .ok v →
    (exec (Instr.alu .adc x) s = .next t →
      t.flags.c.toNat * 256 + t.regs.a.toNat = s.regs.a.toNat + v.toNat + s.flags.c.toNat) ∧
    (exec (Instr.alu .sbc x) s = .next t →
      t.regs.a.toNat + v.toNat + s.flags.c.toNat = s.regs.a.toNat + 256 * t.flags.c.toNat)

/-! ## Increment, decrement, 16-bit add (41_incdec_add16.md) -/

/-- R140, R141: z, n, h from the operation, c is not written. -/
def Obligations.IncOfAByte : Prop :=
  IncDecDoes Instr.inc8 0x01 fun old f =>
    { z := decide (old = 0xFF), n := false, h := decide (old.toNat % 16 = 0xF), c := f.c }

/-- R142, R143. -/
def Obligations.DecOfAByte : Prop :=
  IncDecDoes Instr.dec8 0xFF fun old f =>
    { z := decide (old = 0x01), n := true, h := decide (old.toNat % 16 = 0x0), c := f.c }

/-- R144, R145: modulo 65536, and no flag is written. -/
def Obligations.IncDecOfAWord : Prop :=
  ∀ (s : State) (x : Reg16),
    exec (Instr.inc16 x) s =
      .next (done (with16 s x (BitVec.ofNat 16 ((value16 s x).toNat + 1))) (s.pc + 1) s.cfg.cyc.incdecRr) ∧
    exec (Instr.dec16 x) s =
      .next (done (with16 s x (BitVec.ofNat 16 ((value16 s x).toNat + 65535))) (s.pc + 1) s.cfg.cyc.incdecRr)

/-- R146: h and c are the carries out of bits 11 and 15, z is not written, n is cleared (D10, log 14). -/
def Obligations.AddHlAddsAWord : Prop :=
  ∀ (s : State) (x : Reg16),
    exec (Instr.addHL x) s =
      .next (done
        { with16 s .HL (BitVec.ofNat 16 ((value16 s .HL).toNat + (value16 s x).toNat)) with
          flags :=
            { z := s.flags.z
              n := false
              h := decide ((value16 s .HL).toNat % 0x1000 + (value16 s x).toNat % 0x1000 > 0x0FFF)
              c := decide ((value16 s .HL).toNat + (value16 s x).toNat > 0xFFFF) } }
        (s.pc + 1) s.cfg.cyc.addHlRr)

/-! ## 8-bit loads (42_load8.md) -/

/-- R11, R98, R160: the address of each memory operand of the loads; the (a8) and (a16) operands raise what their immediate raises. -/
def Obligations.MemoryOperandAddresses : Prop :=
  ∀ s : State,
    s.effAddr .indBC = .ok (wordOf s.regs.b s.regs.c) ∧ s.effAddr .indDE = .ok (wordOf s.regs.d s.regs.e) ∧
    s.effAddr .indHL = .ok (wordOf s.regs.h s.regs.l) ∧ s.effAddr .indHLinc = .ok (wordOf s.regs.h s.regs.l) ∧
    s.effAddr .indHLdec = .ok (wordOf s.regs.h s.regs.l) ∧
    s.effAddr .indC = .ok (BitVec.ofNat 16 (0xFF00 + s.regs.c.toNat)) ∧
    (∀ v, s.memRead (s.pc + 1) = .ok v → s.effAddr .inda8 = .ok (BitVec.ofNat 16 (0xFF00 + v.toNat))) ∧
    (∀ f, s.memRead (s.pc + 1) = .error f → s.effAddr .inda8 = .error f) ∧
    (∀ w, ImmWord s w → s.effAddr .inda16 = .ok w) ∧ (∀ f, ImmWordFault s f → s.effAddr .inda16 = .error f)

/-- R161, R162: a register gets a register's value or the immediate byte; nothing else changes, no flag. -/
def Obligations.RegisterLoads : Prop :=
  ∀ (s : State) (rd : Reg8),
    (∀ rs, exec (Instr.ldRegReg rd rs) s =
      .next (done { s with regs := s.regs.set rd (s.reg rs) } (s.pc + 1) s.cfg.cyc.ldRR)) ∧
    (∀ v, s.memRead (s.pc + 1) = .ok v →
      exec (Instr.ldRegD8 rd) s = .next (done { s with regs := s.regs.set rd v } (s.pc + 2) s.cfg.cyc.ldRD8)) ∧
    (∀ f, s.memRead (s.pc + 1) = .error f → exec (Instr.ldRegD8 rd) s = .fault f)

/-- R163, R166, R167, R172, R173, R175, R177, R179: a register gets the byte at the operand's address, then HL moves if the operand says so;
no flag and no byte of memory changes; on a fault nothing is written. -/
def Obligations.LoadsFromMemory : Prop :=
  ∀ (s : State), ∀ row ∈ memoryLoads s.cfg.cyc,
    (∀ addr v, s.effAddr row.operand = .ok addr → s.memRead addr = .ok v →
      exec row.instr s =
        .next (done { s with regs := afterPost row.operand addr (s.regs.set row.register v) } (s.pc + row.length) row.cost)) ∧
    (∀ f, s.effAddr row.operand = .error f → exec row.instr s = .fault f) ∧
    (∀ addr, s.effAddr row.operand = .ok addr → ¬ s.mapped addr → exec row.instr s = .fault (.unmappedAccess addr))

/-- R164, R165, R168 to R171, R174, R176, R178: the operand's address gets the register's byte, or (HL) the immediate one, then HL moves if
the operand says so; every other address reads as before, no flag changes; on an unmapped address the store faults. -/
def Obligations.StoresToMemory : Prop :=
  ∀ (s : State),
    (∀ row ∈ memoryStores s.cfg.cyc,
      (∀ addr, s.arraysOk = true → s.effAddr row.operand = .ok addr → s.mapped addr →
        ∃ u, Wrote s [(addr, s.reg row.register)] u ∧
          exec row.instr s =
            .next (done { u with regs := afterPost row.operand addr s.regs } (s.pc + row.length) row.cost)) ∧
      (∀ f, s.effAddr row.operand = .error f → exec row.instr s = .fault f) ∧
      (∀ addr, s.effAddr row.operand = .ok addr → ¬ s.mapped addr → exec row.instr s = .fault (.unmappedAccess addr))) ∧
    (∀ v, s.arraysOk = true → s.memRead (s.pc + 1) = .ok v → s.mapped (wordOf s.regs.h s.regs.l) →
      ∃ u, Wrote s [(wordOf s.regs.h s.regs.l, v)] u ∧
        exec .ld_indHL_d8 s = .next (done u (s.pc + 2) s.cfg.cyc.ldHlD8)) ∧
    (∀ f, s.memRead (s.pc + 1) = .error f → exec .ld_indHL_d8 s = .fault f) ∧
    (∀ v, s.memRead (s.pc + 1) = .ok v → ¬ s.mapped (wordOf s.regs.h s.regs.l) →
      exec .ld_indHL_d8 s = .fault (.unmappedAccess (wordOf s.regs.h s.regs.l)))

/-! ## 16-bit loads and the stack (43_load16_stack.md) -/

/-- R190, R192: a 16-bit register gets the immediate word (D9), or SP gets HL; no flag. -/
def Obligations.WordLoads : Prop :=
  ∀ s : State,
    (∀ x w, ImmWord s w → exec (Instr.ld16 x) s = .next (done (with16 s x w) (s.pc + 3) s.cfg.cyc.ldRrD16)) ∧
    (∀ x f, ImmWordFault s f → exec (Instr.ld16 x) s = .fault f) ∧
    exec .ld_SP_HL s = .next (done { s with sp := wordOf s.regs.h s.regs.l } (s.pc + 1) s.cfg.cyc.ldSpHl)

/-- R191: SP's low byte goes to a16 and its high byte to a16+1 (D9); if either is unmapped nothing is stored (D17). -/
def Obligations.StoreOfSp : Prop :=
  ∀ s : State,
    (∀ addr, s.arraysOk = true → ImmWord s addr → s.mapped addr → s.mapped (addr + 1) →
      ∃ u, Wrote s [(addr, lowOf s.sp), (addr + 1, highOf s.sp)] u ∧
        exec .ld_inda16_SP s = .next (done u (s.pc + 3) s.cfg.cyc.ldA16Sp)) ∧
    (∀ f, ImmWordFault s f → exec .ld_inda16_SP s = .fault f) ∧
    (∀ addr, ImmWord s addr → ¬ s.mapped addr → exec .ld_inda16_SP s = .fault (.unmappedAccess addr)) ∧
    (∀ addr, ImmWord s addr → s.mapped addr → ¬ s.mapped (addr + 1) →
      exec .ld_inda16_SP s = .fault (.unmappedAccess (addr + 1)))

/-- R193, R194, R196: PUSH stores the pair, or A and the packed flags (D13), and moves SP down by 2; no register else, no flag. -/
def Obligations.PushStoresAWord : Prop :=
  ∀ s : State,
    PushDoes s s.regs.b s.regs.c .push_BC (s.pc + 1) s.cfg.cyc.push ∧
    PushDoes s s.regs.d s.regs.e .push_DE (s.pc + 1) s.cfg.cyc.push ∧
    PushDoes s s.regs.h s.regs.l .push_HL (s.pc + 1) s.cfg.cyc.push ∧
    PushDoes s s.regs.a s.flags.toByte .push_AF (s.pc + 1) s.cfg.cyc.push

/-- R193, R197, R198: POP loads the pair, or A and the four flags (D13), and moves SP up by 2; no memory byte changes. -/
def Obligations.PopLoadsAWord : Prop :=
  ∀ s : State,
    (∀ lo hi, s.memRead s.sp = .ok lo → s.memRead (s.sp + 1) = .ok hi →
      exec .pop_BC s =
        .next (done { s with sp := s.sp + 2, regs := { s.regs with b := hi, c := lo } } (s.pc + 1) s.cfg.cyc.pop) ∧
      exec .pop_DE s =
        .next (done { s with sp := s.sp + 2, regs := { s.regs with d := hi, e := lo } } (s.pc + 1) s.cfg.cyc.pop) ∧
      exec .pop_HL s =
        .next (done { s with sp := s.sp + 2, regs := { s.regs with h := hi, l := lo } } (s.pc + 1) s.cfg.cyc.pop) ∧
      exec .pop_AF s =
        .next (done
          { s with
            sp := s.sp + 2
            regs := { s.regs with a := hi }
            flags := ⟨lo.getLsbD 7, lo.getLsbD 6, lo.getLsbD 5, lo.getLsbD 4⟩ } (s.pc + 1) s.cfg.cyc.pop)) ∧
    (∀ f, StackFault s f → ∀ i ∈ [Instr.pop_BC, .pop_DE, .pop_HL, .pop_AF], exec i s = .fault f)

/-! ## Control transfer (44_control.md) -/

/-- R210: each condition's truth. -/
def Obligations.ConditionsReadTheFlags : Prop :=
  ∀ f : Flags,
    (f.holds .Z = true ↔ f.z = true) ∧ (f.holds .NZ = true ↔ f.z = false) ∧
    (f.holds .C = true ↔ f.c = true) ∧ (f.holds .NC = true ↔ f.c = false)

/-- R211, R212, R213: JP goes to the immediate word or to HL; a false condition goes past the instruction and reads no immediate
(D16). -/
def Obligations.AbsoluteJumps : Prop :=
  ∀ s : State,
    (∀ w, ImmWord s w →
      exec .jp_a16 s = .next (done s w s.cfg.cyc.jpTaken) ∧
      ∀ cc, s.flags.holds cc = true → exec (Instr.jpCc cc) s = .next (done s w s.cfg.cyc.jpTaken)) ∧
    (∀ f, ImmWordFault s f →
      exec .jp_a16 s = .fault f ∧ ∀ cc, s.flags.holds cc = true → exec (Instr.jpCc cc) s = .fault f) ∧
    (∀ cc, s.flags.holds cc = false → exec (Instr.jpCc cc) s = .next (done s (s.pc + 3) s.cfg.cyc.jpNotTaken)) ∧
    exec .jp_HL s = .next (done s (wordOf s.regs.h s.regs.l) s.cfg.cyc.jpHl)

/-- R214, R215: JR goes to the address after the instruction plus the signed displacement; a false condition goes past it and reads
no displacement (D16). -/
def Obligations.RelativeJumps : Prop :=
  ∀ s : State,
    (∀ e, s.memRead (s.pc + 1) = .ok e →
      exec .jr_e8 s = .next (done s (BitVec.ofInt 16 ((s.pc.toNat : Int) + 2 + e.toInt)) s.cfg.cyc.jrTaken) ∧
      ∀ cc, s.flags.holds cc = true →
        exec (Instr.jrCc cc) s = .next (done s (BitVec.ofInt 16 ((s.pc.toNat : Int) + 2 + e.toInt)) s.cfg.cyc.jrTaken)) ∧
    (∀ f, s.memRead (s.pc + 1) = .error f →
      exec .jr_e8 s = .fault f ∧ ∀ cc, s.flags.holds cc = true → exec (Instr.jrCc cc) s = .fault f) ∧
    (∀ cc, s.flags.holds cc = false → exec (Instr.jrCc cc) s = .next (done s (s.pc + 2) s.cfg.cyc.jrNotTaken))

/-- R193, R216, R217: CALL pushes the address of the byte after it and goes to the immediate word; a false condition only goes past
the instruction (D16). -/
def Obligations.CallsPushTheReturnAddress : Prop :=
  ∀ s : State,
    (∀ w, ImmWord s w →
      PushDoes s (highOf (s.pc + 3)) (lowOf (s.pc + 3)) .call_a16 w s.cfg.cyc.callTaken ∧
      ∀ cc, s.flags.holds cc = true →
        PushDoes s (highOf (s.pc + 3)) (lowOf (s.pc + 3)) (Instr.callCc cc) w s.cfg.cyc.callTaken) ∧
    (∀ f, ImmWordFault s f →
      exec .call_a16 s = .fault f ∧ ∀ cc, s.flags.holds cc = true → exec (Instr.callCc cc) s = .fault f) ∧
    (∀ cc, s.flags.holds cc = false → exec (Instr.callCc cc) s = .next (done s (s.pc + 3) s.cfg.cyc.callNotTaken))

/-- R193, R218, R219: RET pops PC; a false condition advances PC by one and reads no stack byte. -/
def Obligations.ReturnsPopPc : Prop :=
  ∀ s : State,
    (∀ w, StackWord s w →
      exec .ret s = .next (done { s with sp := s.sp + 2 } w s.cfg.cyc.ret) ∧
      ∀ cc, s.flags.holds cc = true →
        exec (Instr.retCc cc) s = .next (done { s with sp := s.sp + 2 } w s.cfg.cyc.retCcTaken)) ∧
    (∀ f, StackFault s f →
      exec .ret s = .fault f ∧ ∀ cc, s.flags.holds cc = true → exec (Instr.retCc cc) s = .fault f) ∧
    (∀ cc, s.flags.holds cc = false → exec (Instr.retCc cc) s = .next (done s (s.pc + 1) s.cfg.cyc.retCcNotTaken))

/-! ## Rotates and bit test (45_bit_rotate.md) -/

/-- R231 to R235: the accumulator rotates; z, n and h are cleared whatever the result, c is the bit shifted out (right rotates: D12). -/
def Obligations.AccumulatorRotates : Prop :=
  ∀ (s : State),
    ∀ row ∈ [(Instr.rlca, RotOp.rlc), (.rla, .rl), (.rrca, .rrc), (.rra, .rr)],
      exec row.1 s =
        .next (done
          { s with
            regs := { s.regs with a := rotResult row.2 s.regs.a s.flags.c }
            flags := ⟨false, false, false, shiftedOut s.regs.a (rotLeft row.2)⟩ } (s.pc + 1) s.cfg.cyc.rotA)

/-- R231, R236 to R240: the prefixed rotates of a register or of the byte at HL (flags: D11, log 15; right rotates: D12). -/
def Obligations.PrefixedRotates : Prop :=
  ∀ (s : State) (k : RotOp),
    (∀ r : Reg8,
      exec (Instr.rot k (.reg r)) s =
        .next (done
          { s with
            regs := s.regs.set r (rotResult k (s.reg r) s.flags.c)
            flags := rotFlags k (s.reg r) s.flags.c } (s.pc + 2) s.cfg.cyc.cbRotR)) ∧
    (∀ v, s.arraysOk = true → s.memRead (wordOf s.regs.h s.regs.l) = .ok v →
      ∃ u, Wrote s [(wordOf s.regs.h s.regs.l, rotResult k v s.flags.c)] u ∧
        exec (Instr.rot k .indHL) s =
          .next (done { u with flags := rotFlags k v s.flags.c } (s.pc + 2) s.cfg.cyc.cbRotHl)) ∧
    (∀ f, s.memRead (wordOf s.regs.h s.regs.l) = .error f → exec (Instr.rot k .indHL) s = .fault f)

/-- R236, R241: BIT sets z to the bit's complement, clears n and h (C7), keeps c, and writes nothing else. -/
def Obligations.BitTests : Prop :=
  ∀ (s : State) (b : Fin 8),
    (∀ r : Reg8,
      exec (Instr.bit b (.reg r)) s =
        .next (done { s with flags := ⟨decide ((s.reg r).toNat / 2 ^ b.val % 2 = 0), false, false, s.flags.c⟩ }
          (s.pc + 2) s.cfg.cyc.cbBitR)) ∧
    (∀ v, s.memRead (wordOf s.regs.h s.regs.l) = .ok v →
      exec (Instr.bit b .indHL) s =
        .next (done { s with flags := ⟨decide (v.toNat / 2 ^ b.val % 2 = 0), false, false, s.flags.c⟩ }
          (s.pc + 2) s.cfg.cyc.cbBitHl)) ∧
    (∀ f, s.memRead (wordOf s.regs.h s.regs.l) = .error f → exec (Instr.bit b .indHL) s = .fault f)
end

