-- ==== Sys2Proof/Laws/Bytes.lean ====
section
/-! SUPPORT. A word is its high byte and its low byte. -/

namespace Sys2Proof

theorem joinBytes_eq_append (hi lo : Byte) : joinBytes hi lo = (hi ++ lo : BitVec (8 + 8)) := rfl

@[simp] theorem highByte_joinBytes (hi lo : Byte) : highByte (joinBytes hi lo) = hi := by
  apply BitVec.eq_of_getLsbD_eq
  intro i h
  have := BitVec.getLsbD_append (x := hi) (y := lo) (i := 8 + i)
  rw [highByte, BitVec.getLsbD_extractLsb', joinBytes_eq_append]
  simp_all

@[simp] theorem lowByte_joinBytes (hi lo : Byte) : lowByte (joinBytes hi lo) = lo := by
  apply BitVec.eq_of_getLsbD_eq
  intro i h
  have := BitVec.getLsbD_append (x := hi) (y := lo) (i := 0 + i)
  rw [lowByte, BitVec.getLsbD_extractLsb', joinBytes_eq_append]
  simp_all

@[simp] theorem joinBytes_high_low (v : Word) : joinBytes (highByte v) (lowByte v) = v := by
  apply BitVec.eq_of_getLsbD_eq
  intro i h
  have := BitVec.getLsbD_append (x := highByte v) (y := lowByte v) (i := i)
  rw [joinBytes_eq_append, this]
  simp only [highByte, lowByte, BitVec.getLsbD_extractLsb']
  split
  · simp [*]
  · rw [show 8 + (i - 8) = i by omega]
    simp only [Bool.and_eq_right_iff_imp, decide_eq_true_eq]
    omega

theorem toNat_joinBytes (hi lo : Byte) : (joinBytes hi lo).toNat = hi.toNat * 256 + lo.toNat := by
  have h := BitVec.toNat_append hi lo
  have hlo := lo.isLt
  rw [joinBytes_eq_append, h, Nat.shiftLeft_eq, Nat.mul_comm hi.toNat, ← Nat.two_pow_add_eq_or_of_lt hlo]

end Sys2Proof
end

