-- ==== Sys2Proof/Laws/Memory.lean ====
section
/-! SUPPORT. The laws of one region's array: read after write, the canonical form is kept, equal contents are equal data. -/

namespace Sys2Proof.Machine

theorem Memory.get_of_wfFrom_lt {m : Memory} {lo k : Nat} (h : Memory.wfFrom lo m = true) (hk : k < lo) :
    Memory.get m k = unlistedByte := by
  induction m generalizing lo with
  | nil => rfl
  | cons c m ih =>
    obtain ⟨k', v⟩ := c
    simp only [Memory.wfFrom, Bool.and_eq_true, decide_eq_true_eq] at h
    have : k' ≠ k := by omega
    simp only [Memory.get, if_neg this]
    exact ih h.2 (by omega)

theorem Memory.wfFrom_mono {m : Memory} {lo lo' : Nat} (h : Memory.wfFrom lo m = true) (hl : lo' ≤ lo) :
    Memory.wfFrom lo' m = true := by
  cases m with
  | nil => rfl
  | cons c m =>
    obtain ⟨k', v⟩ := c
    simp only [Memory.wfFrom, Bool.and_eq_true, decide_eq_true_eq] at h ⊢
    exact ⟨⟨by omega, h.1.2⟩, h.2⟩

/-- Storing keeps the canonical form. -/
theorem Memory.set_wfFrom {m : Memory} {lo k : Nat} (v : Byte) (h : Memory.wfFrom lo m = true) (hk : lo ≤ k) :
    Memory.wfFrom lo (Memory.set m k v) = true := by
  induction m generalizing lo with
  | nil =>
    unfold Memory.set
    split <;> simp_all [Memory.wfFrom]
  | cons c m ih =>
    obtain ⟨k', v'⟩ := c
    have h0 := h
    simp only [Memory.wfFrom, Bool.and_eq_true, decide_eq_true_eq] at h
    obtain ⟨⟨hlo, hv'⟩, hm⟩ := h
    unfold Memory.set
    split
    · rename_i hlt
      split
      · exact h0
      · rename_i hv
        simp only [Memory.wfFrom, Bool.and_eq_true, decide_eq_true_eq]
        exact ⟨⟨hk, hv⟩, ⟨by omega, hv'⟩, hm⟩
    · split
      · rename_i hne heq
        subst heq
        split
        · exact Memory.wfFrom_mono hm (by omega)
        · rename_i hv
          simp only [Memory.wfFrom, Bool.and_eq_true, decide_eq_true_eq]
          exact ⟨⟨hk, hv⟩, hm⟩
      · simp only [Memory.wfFrom, Bool.and_eq_true, decide_eq_true_eq]
        exact ⟨⟨hlo, hv'⟩, ih hm (by omega)⟩

theorem Memory.set_wf {m : Memory} (k : Nat) (v : Byte) (h : m.wf = true) : (Memory.set m k v).wf = true :=
  Memory.set_wfFrom v h (Nat.zero_le k)

theorem Memory.set_within {m : Memory} {size k : Nat} (v : Byte) (h : m.within size = true) (hk : k < size) :
    (Memory.set m k v).within size = true := by
  induction m with
  | nil =>
    unfold Memory.set
    split <;> simp_all [Memory.within]
  | cons c m ih =>
    obtain ⟨k', v'⟩ := c
    simp only [Memory.within, List.all_cons, Bool.and_eq_true, decide_eq_true_eq] at h ih ⊢
    have ih' := ih h.2
    unfold Memory.set
    split_ifs <;> first | exact h.2 | (simp only [List.all_cons, Bool.and_eq_true, decide_eq_true_eq]; tauto)

/-- A write leaves every other place alone. -/
theorem Memory.get_set_ne {m : Memory} {k j : Nat} (v : Byte) (h : j ≠ k) :
    Memory.get (Memory.set m k v) j = Memory.get m j := by
  induction m with
  | nil =>
    unfold Memory.set
    split
    · rfl
    · simp [Memory.get, h.symm]
  | cons c m ih =>
    obtain ⟨k', v'⟩ := c
    unfold Memory.set
    split_ifs with h1 h2 h3 h4
    · rfl
    · simp [Memory.get, h.symm]
    · subst h3; simp [Memory.get, h.symm]
    · subst h3; simp [Memory.get, h.symm]
    · simp only [Memory.get, ih]

theorem Memory.get_set_self_from {m : Memory} {lo k : Nat} (v : Byte) (h : Memory.wfFrom lo m = true) :
    Memory.get (Memory.set m k v) k = v := by
  induction m generalizing lo with
  | nil =>
    unfold Memory.set
    split <;> simp_all [Memory.get]
  | cons c m ih =>
    obtain ⟨k', v'⟩ := c
    simp only [Memory.wfFrom, Bool.and_eq_true, decide_eq_true_eq] at h
    unfold Memory.set
    split_ifs with h1 h2 h3 h4
    · subst h2
      have : k' ≠ k := by omega
      simp only [Memory.get, if_neg this]
      exact Memory.get_of_wfFrom_lt h.2 (by omega)
    · simp [Memory.get]
    · subst h3 h4
      exact Memory.get_of_wfFrom_lt h.2 (by omega)
    · simp [Memory.get]
    · simp only [Memory.get, if_neg h3]
      exact ih h.2

/-- A read after a write to the same place gives the value written. -/
theorem Memory.get_set_self {m : Memory} (k : Nat) (v : Byte) (h : m.wf = true) :
    Memory.get (Memory.set m k v) k = v :=
  Memory.get_set_self_from v h

theorem Memory.get_head_ne {m : Memory} {lo k : Nat} {v : Byte} (h : Memory.wfFrom lo ((k, v) :: m) = true) :
    Memory.get ((k, v) :: m) k ≠ unlistedByte := by
  simp only [Memory.wfFrom, Bool.and_eq_true, decide_eq_true_eq] at h
  simpa [Memory.get] using h.1.2

theorem Memory.ext_from {m m' : Memory} {lo : Nat} (h : Memory.wfFrom lo m = true) (h' : Memory.wfFrom lo m' = true)
    (hget : ∀ k, Memory.get m k = Memory.get m' k) : m = m' := by
  induction m generalizing lo m' with
  | nil =>
    cases m' with
    | nil => rfl
    | cons c m' =>
      obtain ⟨k, v⟩ := c
      exact absurd (hget k).symm (Memory.get_head_ne h')
  | cons c m ih =>
    obtain ⟨k, v⟩ := c
    cases m' with
    | nil => exact absurd (hget k) (Memory.get_head_ne h)
    | cons c' m' =>
      obtain ⟨k', v'⟩ := c'
      have hk : k = k' := by
        have h1 := Memory.get_head_ne h
        have h2 := Memory.get_head_ne h'
        simp only [Memory.wfFrom, Bool.and_eq_true, decide_eq_true_eq] at h h'
        rcases Nat.lt_trichotomy k k' with hlt | heq | hlt
        · refine absurd ?_ h1
          rw [hget k]
          have : k' ≠ k := by omega
          simp only [Memory.get, if_neg this]
          exact Memory.get_of_wfFrom_lt h'.2 (by omega)
        · exact heq
        · refine absurd ?_ h2
          rw [← hget k']
          have : k ≠ k' := by omega
          simp only [Memory.get, if_neg this]
          exact Memory.get_of_wfFrom_lt h.2 (by omega)
      subst hk
      have hv : v = v' := by simpa [Memory.get] using hget k
      subst hv
      simp only [Memory.wfFrom, Bool.and_eq_true, decide_eq_true_eq] at h h'
      congr 1
      refine ih h.2 h'.2 fun j => ?_
      by_cases hj : k = j
      · subst hj
        rw [Memory.get_of_wfFrom_lt h.2 (by omega), Memory.get_of_wfFrom_lt h'.2 (by omega)]
      · have := hget j
        simpa [Memory.get, hj] using this

/-- Equal contents are equal data. -/
theorem Memory.ext {m m' : Memory} (h : m.wf = true) (h' : m'.wf = true)
    (hget : ∀ k, Memory.get m k = Memory.get m' k) : m = m' :=
  Memory.ext_from h h' hget

theorem Memory.ofBytes_wfFrom (k : Nat) (vs : List Byte) : Memory.wfFrom k (Memory.ofBytes k vs) = true := by
  induction vs generalizing k with
  | nil => rfl
  | cons v vs ih =>
    unfold Memory.ofBytes
    split
    · exact Memory.wfFrom_mono (ih (k + 1)) (by omega)
    · simp_all [Memory.wfFrom]

theorem Memory.ofBytes_wf (vs : List Byte) : (Memory.ofBytes 0 vs).wf = true := Memory.ofBytes_wfFrom 0 vs

theorem Memory.ofBytes_within (k : Nat) (vs : List Byte) {size : Nat} (h : k + vs.length ≤ size) :
    (Memory.ofBytes k vs).within size = true := by
  induction vs generalizing k with
  | nil => rfl
  | cons v vs ih =>
    simp only [List.length_cons] at h
    unfold Memory.ofBytes
    have := ih (k + 1) (by omega)
    split
    · exact this
    · simp only [Memory.within, List.all_cons, Bool.and_eq_true, decide_eq_true_eq] at this ⊢
      exact ⟨by omega, this⟩

theorem Memory.get_ofBytes (k j : Nat) (vs : List Byte) :
    Memory.get (Memory.ofBytes k vs) (k + j) = (vs[j]?).getD unlistedByte := by
  induction vs generalizing k j with
  | nil => rfl
  | cons v vs ih =>
    unfold Memory.ofBytes
    cases j with
    | zero =>
      split
      · rename_i h
        rw [h]
        exact Memory.get_of_wfFrom_lt (Memory.ofBytes_wfFrom (k + 1) vs) (by omega)
      · simp [Memory.get]
    | succ j =>
      have := ih (k + 1) j
      have e : k + 1 + j = k + (j + 1) := by omega
      rw [e] at this
      split
      · simpa using this
      · simp only [Memory.get, List.getElem?_cons_succ]
        rw [if_neg (by omega)]
        exact this

/-- An image of zeros lists nothing. -/
theorem Memory.ofBytes_replicate (k n : Nat) : Memory.ofBytes k (List.replicate n unlistedByte) = [] := by
  induction n generalizing k with
  | zero => rfl
  | succ n ih => simp [List.replicate_succ, Memory.ofBytes, ih]

end Sys2Proof.Machine
end

