-- ==== Sys2Proof/Laws/State.lean ====
section
/-! SUPPORT. What each named update of the state does to each field. -/

namespace Sys2Proof.Machine

variable (s : State)

@[simp] theorem State.setReg_regs (x : Reg8) (v : Byte) : (s.setReg x v).regs = s.regs.set x v := rfl
@[simp] theorem State.setReg_flags (x : Reg8) (v : Byte) : (s.setReg x v).flags = s.flags := rfl
@[simp] theorem State.setReg_pc (x : Reg8) (v : Byte) : (s.setReg x v).pc = s.pc := rfl
@[simp] theorem State.setReg_sp (x : Reg8) (v : Byte) : (s.setReg x v).sp = s.sp := rfl
@[simp] theorem State.setReg_run (x : Reg8) (v : Byte) : (s.setReg x v).run = s.run := rfl
@[simp] theorem State.setReg_clk (x : Reg8) (v : Byte) : (s.setReg x v).clk = s.clk := rfl
@[simp] theorem State.setReg_fault (x : Reg8) (v : Byte) : (s.setReg x v).fault = s.fault := rfl
@[simp] theorem State.setReg_bootActive (x : Reg8) (v : Byte) : (s.setReg x v).bootActive = s.bootActive := rfl
@[simp] theorem State.setReg_gpu (x : Reg8) (v : Byte) : (s.setReg x v).gpu = s.gpu := rfl
@[simp] theorem State.setReg_boot (x : Reg8) (v : Byte) : (s.setReg x v).boot = s.boot := rfl
@[simp] theorem State.setReg_rom0 (x : Reg8) (v : Byte) : (s.setReg x v).rom0 = s.rom0 := rfl
@[simp] theorem State.setReg_vram (x : Reg8) (v : Byte) : (s.setReg x v).vram = s.vram := rfl
@[simp] theorem State.setReg_wram (x : Reg8) (v : Byte) : (s.setReg x v).wram = s.wram := rfl
@[simp] theorem State.setReg_hram (x : Reg8) (v : Byte) : (s.setReg x v).hram = s.hram := rfl
@[simp] theorem State.setReg_cfg (x : Reg8) (v : Byte) : (s.setReg x v).cfg = s.cfg := rfl

@[simp] theorem State.setPair_regs (p : Pair) (v : Word) : (s.setPair p v).regs = (s.regs.set (pairHigh p) (highByte v)).set (pairLow p) (lowByte v) := rfl
@[simp] theorem State.setPair_flags (p : Pair) (v : Word) : (s.setPair p v).flags = s.flags := rfl
@[simp] theorem State.setPair_pc (p : Pair) (v : Word) : (s.setPair p v).pc = s.pc := rfl
@[simp] theorem State.setPair_sp (p : Pair) (v : Word) : (s.setPair p v).sp = s.sp := rfl
@[simp] theorem State.setPair_run (p : Pair) (v : Word) : (s.setPair p v).run = s.run := rfl
@[simp] theorem State.setPair_clk (p : Pair) (v : Word) : (s.setPair p v).clk = s.clk := rfl
@[simp] theorem State.setPair_fault (p : Pair) (v : Word) : (s.setPair p v).fault = s.fault := rfl
@[simp] theorem State.setPair_bootActive (p : Pair) (v : Word) : (s.setPair p v).bootActive = s.bootActive := rfl
@[simp] theorem State.setPair_gpu (p : Pair) (v : Word) : (s.setPair p v).gpu = s.gpu := rfl
@[simp] theorem State.setPair_boot (p : Pair) (v : Word) : (s.setPair p v).boot = s.boot := rfl
@[simp] theorem State.setPair_rom0 (p : Pair) (v : Word) : (s.setPair p v).rom0 = s.rom0 := rfl
@[simp] theorem State.setPair_vram (p : Pair) (v : Word) : (s.setPair p v).vram = s.vram := rfl
@[simp] theorem State.setPair_wram (p : Pair) (v : Word) : (s.setPair p v).wram = s.wram := rfl
@[simp] theorem State.setPair_hram (p : Pair) (v : Word) : (s.setPair p v).hram = s.hram := rfl
@[simp] theorem State.setPair_cfg (p : Pair) (v : Word) : (s.setPair p v).cfg = s.cfg := rfl

@[simp] theorem State.setFlags_regs (f : Flags) : (s.setFlags f).regs = s.regs := rfl
@[simp] theorem State.setFlags_flags (f : Flags) : (s.setFlags f).flags = f := rfl
@[simp] theorem State.setFlags_pc (f : Flags) : (s.setFlags f).pc = s.pc := rfl
@[simp] theorem State.setFlags_sp (f : Flags) : (s.setFlags f).sp = s.sp := rfl
@[simp] theorem State.setFlags_run (f : Flags) : (s.setFlags f).run = s.run := rfl
@[simp] theorem State.setFlags_clk (f : Flags) : (s.setFlags f).clk = s.clk := rfl
@[simp] theorem State.setFlags_fault (f : Flags) : (s.setFlags f).fault = s.fault := rfl
@[simp] theorem State.setFlags_bootActive (f : Flags) : (s.setFlags f).bootActive = s.bootActive := rfl
@[simp] theorem State.setFlags_gpu (f : Flags) : (s.setFlags f).gpu = s.gpu := rfl
@[simp] theorem State.setFlags_boot (f : Flags) : (s.setFlags f).boot = s.boot := rfl
@[simp] theorem State.setFlags_rom0 (f : Flags) : (s.setFlags f).rom0 = s.rom0 := rfl
@[simp] theorem State.setFlags_vram (f : Flags) : (s.setFlags f).vram = s.vram := rfl
@[simp] theorem State.setFlags_wram (f : Flags) : (s.setFlags f).wram = s.wram := rfl
@[simp] theorem State.setFlags_hram (f : Flags) : (s.setFlags f).hram = s.hram := rfl
@[simp] theorem State.setFlags_cfg (f : Flags) : (s.setFlags f).cfg = s.cfg := rfl

@[simp] theorem State.setPc_regs (v : Word) : (s.setPc v).regs = s.regs := rfl
@[simp] theorem State.setPc_flags (v : Word) : (s.setPc v).flags = s.flags := rfl
@[simp] theorem State.setPc_pc (v : Word) : (s.setPc v).pc = v := rfl
@[simp] theorem State.setPc_sp (v : Word) : (s.setPc v).sp = s.sp := rfl
@[simp] theorem State.setPc_run (v : Word) : (s.setPc v).run = s.run := rfl
@[simp] theorem State.setPc_clk (v : Word) : (s.setPc v).clk = s.clk := rfl
@[simp] theorem State.setPc_fault (v : Word) : (s.setPc v).fault = s.fault := rfl
@[simp] theorem State.setPc_bootActive (v : Word) : (s.setPc v).bootActive = s.bootActive := rfl
@[simp] theorem State.setPc_gpu (v : Word) : (s.setPc v).gpu = s.gpu := rfl
@[simp] theorem State.setPc_boot (v : Word) : (s.setPc v).boot = s.boot := rfl
@[simp] theorem State.setPc_rom0 (v : Word) : (s.setPc v).rom0 = s.rom0 := rfl
@[simp] theorem State.setPc_vram (v : Word) : (s.setPc v).vram = s.vram := rfl
@[simp] theorem State.setPc_wram (v : Word) : (s.setPc v).wram = s.wram := rfl
@[simp] theorem State.setPc_hram (v : Word) : (s.setPc v).hram = s.hram := rfl
@[simp] theorem State.setPc_cfg (v : Word) : (s.setPc v).cfg = s.cfg := rfl

@[simp] theorem State.setSp_regs (v : Word) : (s.setSp v).regs = s.regs := rfl
@[simp] theorem State.setSp_flags (v : Word) : (s.setSp v).flags = s.flags := rfl
@[simp] theorem State.setSp_pc (v : Word) : (s.setSp v).pc = s.pc := rfl
@[simp] theorem State.setSp_sp (v : Word) : (s.setSp v).sp = v := rfl
@[simp] theorem State.setSp_run (v : Word) : (s.setSp v).run = s.run := rfl
@[simp] theorem State.setSp_clk (v : Word) : (s.setSp v).clk = s.clk := rfl
@[simp] theorem State.setSp_fault (v : Word) : (s.setSp v).fault = s.fault := rfl
@[simp] theorem State.setSp_bootActive (v : Word) : (s.setSp v).bootActive = s.bootActive := rfl
@[simp] theorem State.setSp_gpu (v : Word) : (s.setSp v).gpu = s.gpu := rfl
@[simp] theorem State.setSp_boot (v : Word) : (s.setSp v).boot = s.boot := rfl
@[simp] theorem State.setSp_rom0 (v : Word) : (s.setSp v).rom0 = s.rom0 := rfl
@[simp] theorem State.setSp_vram (v : Word) : (s.setSp v).vram = s.vram := rfl
@[simp] theorem State.setSp_wram (v : Word) : (s.setSp v).wram = s.wram := rfl
@[simp] theorem State.setSp_hram (v : Word) : (s.setSp v).hram = s.hram := rfl
@[simp] theorem State.setSp_cfg (v : Word) : (s.setSp v).cfg = s.cfg := rfl

@[simp] theorem State.setRun_regs (r : RunState) : (s.setRun r).regs = s.regs := rfl
@[simp] theorem State.setRun_flags (r : RunState) : (s.setRun r).flags = s.flags := rfl
@[simp] theorem State.setRun_pc (r : RunState) : (s.setRun r).pc = s.pc := rfl
@[simp] theorem State.setRun_sp (r : RunState) : (s.setRun r).sp = s.sp := rfl
@[simp] theorem State.setRun_run (r : RunState) : (s.setRun r).run = r := rfl
@[simp] theorem State.setRun_clk (r : RunState) : (s.setRun r).clk = s.clk := rfl
@[simp] theorem State.setRun_fault (r : RunState) : (s.setRun r).fault = s.fault := rfl
@[simp] theorem State.setRun_bootActive (r : RunState) : (s.setRun r).bootActive = s.bootActive := rfl
@[simp] theorem State.setRun_gpu (r : RunState) : (s.setRun r).gpu = s.gpu := rfl
@[simp] theorem State.setRun_boot (r : RunState) : (s.setRun r).boot = s.boot := rfl
@[simp] theorem State.setRun_rom0 (r : RunState) : (s.setRun r).rom0 = s.rom0 := rfl
@[simp] theorem State.setRun_vram (r : RunState) : (s.setRun r).vram = s.vram := rfl
@[simp] theorem State.setRun_wram (r : RunState) : (s.setRun r).wram = s.wram := rfl
@[simp] theorem State.setRun_hram (r : RunState) : (s.setRun r).hram = s.hram := rfl
@[simp] theorem State.setRun_cfg (r : RunState) : (s.setRun r).cfg = s.cfg := rfl

@[simp] theorem State.account_regs (n : Nat) : (s.account n).regs = s.regs := rfl
@[simp] theorem State.account_flags (n : Nat) : (s.account n).flags = s.flags := rfl
@[simp] theorem State.account_pc (n : Nat) : (s.account n).pc = s.pc := rfl
@[simp] theorem State.account_sp (n : Nat) : (s.account n).sp = s.sp := rfl
@[simp] theorem State.account_run (n : Nat) : (s.account n).run = s.run := rfl
@[simp] theorem State.account_clk (n : Nat) : (s.account n).clk = (s.clk + n) % 2 ^ s.cfg.clkW := rfl
@[simp] theorem State.account_fault (n : Nat) : (s.account n).fault = s.fault := rfl
@[simp] theorem State.account_bootActive (n : Nat) : (s.account n).bootActive = s.bootActive := rfl
@[simp] theorem State.account_gpu (n : Nat) : (s.account n).gpu = s.gpu.advance n := rfl
@[simp] theorem State.account_boot (n : Nat) : (s.account n).boot = s.boot := rfl
@[simp] theorem State.account_rom0 (n : Nat) : (s.account n).rom0 = s.rom0 := rfl
@[simp] theorem State.account_vram (n : Nat) : (s.account n).vram = s.vram := rfl
@[simp] theorem State.account_wram (n : Nat) : (s.account n).wram = s.wram := rfl
@[simp] theorem State.account_hram (n : Nat) : (s.account n).hram = s.hram := rfl
@[simp] theorem State.account_cfg (n : Nat) : (s.account n).cfg = s.cfg := rfl

@[simp] theorem State.retire_regs (len : Word) (n : Nat) : (s.retire len n).regs = s.regs := rfl
@[simp] theorem State.retire_flags (len : Word) (n : Nat) : (s.retire len n).flags = s.flags := rfl
@[simp] theorem State.retire_pc (len : Word) (n : Nat) : (s.retire len n).pc = s.pc + len := rfl
@[simp] theorem State.retire_sp (len : Word) (n : Nat) : (s.retire len n).sp = s.sp := rfl
@[simp] theorem State.retire_run (len : Word) (n : Nat) : (s.retire len n).run = s.run := rfl
@[simp] theorem State.retire_clk (len : Word) (n : Nat) : (s.retire len n).clk = (s.clk + n) % 2 ^ s.cfg.clkW := rfl
@[simp] theorem State.retire_fault (len : Word) (n : Nat) : (s.retire len n).fault = s.fault := rfl
@[simp] theorem State.retire_bootActive (len : Word) (n : Nat) : (s.retire len n).bootActive = s.bootActive := rfl
@[simp] theorem State.retire_gpu (len : Word) (n : Nat) : (s.retire len n).gpu = s.gpu.advance n := rfl
@[simp] theorem State.retire_boot (len : Word) (n : Nat) : (s.retire len n).boot = s.boot := rfl
@[simp] theorem State.retire_rom0 (len : Word) (n : Nat) : (s.retire len n).rom0 = s.rom0 := rfl
@[simp] theorem State.retire_vram (len : Word) (n : Nat) : (s.retire len n).vram = s.vram := rfl
@[simp] theorem State.retire_wram (len : Word) (n : Nat) : (s.retire len n).wram = s.wram := rfl
@[simp] theorem State.retire_hram (len : Word) (n : Nat) : (s.retire len n).hram = s.hram := rfl
@[simp] theorem State.retire_cfg (len : Word) (n : Nat) : (s.retire len n).cfg = s.cfg := rfl

@[simp] theorem State.jump_regs (t : Word) (n : Nat) : (s.jump t n).regs = s.regs := rfl
@[simp] theorem State.jump_flags (t : Word) (n : Nat) : (s.jump t n).flags = s.flags := rfl
@[simp] theorem State.jump_pc (t : Word) (n : Nat) : (s.jump t n).pc = t := rfl
@[simp] theorem State.jump_sp (t : Word) (n : Nat) : (s.jump t n).sp = s.sp := rfl
@[simp] theorem State.jump_run (t : Word) (n : Nat) : (s.jump t n).run = s.run := rfl
@[simp] theorem State.jump_clk (t : Word) (n : Nat) : (s.jump t n).clk = (s.clk + n) % 2 ^ s.cfg.clkW := rfl
@[simp] theorem State.jump_fault (t : Word) (n : Nat) : (s.jump t n).fault = s.fault := rfl
@[simp] theorem State.jump_bootActive (t : Word) (n : Nat) : (s.jump t n).bootActive = s.bootActive := rfl
@[simp] theorem State.jump_gpu (t : Word) (n : Nat) : (s.jump t n).gpu = s.gpu.advance n := rfl
@[simp] theorem State.jump_boot (t : Word) (n : Nat) : (s.jump t n).boot = s.boot := rfl
@[simp] theorem State.jump_rom0 (t : Word) (n : Nat) : (s.jump t n).rom0 = s.rom0 := rfl
@[simp] theorem State.jump_vram (t : Word) (n : Nat) : (s.jump t n).vram = s.vram := rfl
@[simp] theorem State.jump_wram (t : Word) (n : Nat) : (s.jump t n).wram = s.wram := rfl
@[simp] theorem State.jump_hram (t : Word) (n : Nat) : (s.jump t n).hram = s.hram := rfl
@[simp] theorem State.jump_cfg (t : Word) (n : Nat) : (s.jump t n).cfg = s.cfg := rfl

@[simp] theorem State.setAf_regs (v : Word) : (s.setAf v).regs = s.regs.set .A (highByte v) := rfl
@[simp] theorem State.setAf_flags (v : Word) : (s.setAf v).flags = Flags.ofByte (lowByte v) := rfl
@[simp] theorem State.setAf_pc (v : Word) : (s.setAf v).pc = s.pc := rfl
@[simp] theorem State.setAf_sp (v : Word) : (s.setAf v).sp = s.sp := rfl
@[simp] theorem State.setAf_run (v : Word) : (s.setAf v).run = s.run := rfl
@[simp] theorem State.setAf_clk (v : Word) : (s.setAf v).clk = s.clk := rfl
@[simp] theorem State.setAf_fault (v : Word) : (s.setAf v).fault = s.fault := rfl
@[simp] theorem State.setAf_bootActive (v : Word) : (s.setAf v).bootActive = s.bootActive := rfl
@[simp] theorem State.setAf_gpu (v : Word) : (s.setAf v).gpu = s.gpu := rfl
@[simp] theorem State.setAf_boot (v : Word) : (s.setAf v).boot = s.boot := rfl
@[simp] theorem State.setAf_rom0 (v : Word) : (s.setAf v).rom0 = s.rom0 := rfl
@[simp] theorem State.setAf_vram (v : Word) : (s.setAf v).vram = s.vram := rfl
@[simp] theorem State.setAf_wram (v : Word) : (s.setAf v).wram = s.wram := rfl
@[simp] theorem State.setAf_hram (v : Word) : (s.setAf v).hram = s.hram := rfl
@[simp] theorem State.setAf_cfg (v : Word) : (s.setAf v).cfg = s.cfg := rfl

@[simp] theorem State.setReg16_flags (x : Reg16) (v : Word) : (s.setReg16 x v).flags = s.flags := by cases x <;> rfl
@[simp] theorem State.setReg16_pc (x : Reg16) (v : Word) : (s.setReg16 x v).pc = s.pc := by cases x <;> rfl
@[simp] theorem State.setReg16_run (x : Reg16) (v : Word) : (s.setReg16 x v).run = s.run := by cases x <;> rfl
@[simp] theorem State.setReg16_clk (x : Reg16) (v : Word) : (s.setReg16 x v).clk = s.clk := by cases x <;> rfl
@[simp] theorem State.setReg16_fault (x : Reg16) (v : Word) : (s.setReg16 x v).fault = s.fault := by cases x <;> rfl
@[simp] theorem State.setReg16_bootActive (x : Reg16) (v : Word) : (s.setReg16 x v).bootActive = s.bootActive := by cases x <;> rfl
@[simp] theorem State.setReg16_gpu (x : Reg16) (v : Word) : (s.setReg16 x v).gpu = s.gpu := by cases x <;> rfl
@[simp] theorem State.setReg16_boot (x : Reg16) (v : Word) : (s.setReg16 x v).boot = s.boot := by cases x <;> rfl
@[simp] theorem State.setReg16_rom0 (x : Reg16) (v : Word) : (s.setReg16 x v).rom0 = s.rom0 := by cases x <;> rfl
@[simp] theorem State.setReg16_vram (x : Reg16) (v : Word) : (s.setReg16 x v).vram = s.vram := by cases x <;> rfl
@[simp] theorem State.setReg16_wram (x : Reg16) (v : Word) : (s.setReg16 x v).wram = s.wram := by cases x <;> rfl
@[simp] theorem State.setReg16_hram (x : Reg16) (v : Word) : (s.setReg16 x v).hram = s.hram := by cases x <;> rfl
@[simp] theorem State.setReg16_cfg (x : Reg16) (v : Word) : (s.setReg16 x v).cfg = s.cfg := by cases x <;> rfl

@[simp] theorem State.postEffect_flags (m : MemOperand) (a : Word) : (s.postEffect m a).flags = s.flags := by cases m <;> rfl
@[simp] theorem State.postEffect_pc (m : MemOperand) (a : Word) : (s.postEffect m a).pc = s.pc := by cases m <;> rfl
@[simp] theorem State.postEffect_sp (m : MemOperand) (a : Word) : (s.postEffect m a).sp = s.sp := by cases m <;> rfl
@[simp] theorem State.postEffect_run (m : MemOperand) (a : Word) : (s.postEffect m a).run = s.run := by cases m <;> rfl
@[simp] theorem State.postEffect_clk (m : MemOperand) (a : Word) : (s.postEffect m a).clk = s.clk := by cases m <;> rfl
@[simp] theorem State.postEffect_fault (m : MemOperand) (a : Word) : (s.postEffect m a).fault = s.fault := by cases m <;> rfl
@[simp] theorem State.postEffect_bootActive (m : MemOperand) (a : Word) : (s.postEffect m a).bootActive = s.bootActive := by cases m <;> rfl
@[simp] theorem State.postEffect_gpu (m : MemOperand) (a : Word) : (s.postEffect m a).gpu = s.gpu := by cases m <;> rfl
@[simp] theorem State.postEffect_boot (m : MemOperand) (a : Word) : (s.postEffect m a).boot = s.boot := by cases m <;> rfl
@[simp] theorem State.postEffect_rom0 (m : MemOperand) (a : Word) : (s.postEffect m a).rom0 = s.rom0 := by cases m <;> rfl
@[simp] theorem State.postEffect_vram (m : MemOperand) (a : Word) : (s.postEffect m a).vram = s.vram := by cases m <;> rfl
@[simp] theorem State.postEffect_wram (m : MemOperand) (a : Word) : (s.postEffect m a).wram = s.wram := by cases m <;> rfl
@[simp] theorem State.postEffect_hram (m : MemOperand) (a : Word) : (s.postEffect m a).hram = s.hram := by cases m <;> rfl
@[simp] theorem State.postEffect_cfg (m : MemOperand) (a : Word) : (s.postEffect m a).cfg = s.cfg := by cases m <;> rfl

@[simp] theorem State.aluWrite_flags (op : AluOp) (r : ByteResult) : (s.aluWrite op r).flags = r.flags := by cases op <;> rfl
@[simp] theorem State.aluWrite_pc (op : AluOp) (r : ByteResult) : (s.aluWrite op r).pc = s.pc := by cases op <;> rfl
@[simp] theorem State.aluWrite_sp (op : AluOp) (r : ByteResult) : (s.aluWrite op r).sp = s.sp := by cases op <;> rfl
@[simp] theorem State.aluWrite_run (op : AluOp) (r : ByteResult) : (s.aluWrite op r).run = s.run := by cases op <;> rfl
@[simp] theorem State.aluWrite_clk (op : AluOp) (r : ByteResult) : (s.aluWrite op r).clk = s.clk := by cases op <;> rfl
@[simp] theorem State.aluWrite_fault (op : AluOp) (r : ByteResult) : (s.aluWrite op r).fault = s.fault := by cases op <;> rfl
@[simp] theorem State.aluWrite_bootActive (op : AluOp) (r : ByteResult) : (s.aluWrite op r).bootActive = s.bootActive := by cases op <;> rfl
@[simp] theorem State.aluWrite_gpu (op : AluOp) (r : ByteResult) : (s.aluWrite op r).gpu = s.gpu := by cases op <;> rfl
@[simp] theorem State.aluWrite_boot (op : AluOp) (r : ByteResult) : (s.aluWrite op r).boot = s.boot := by cases op <;> rfl
@[simp] theorem State.aluWrite_rom0 (op : AluOp) (r : ByteResult) : (s.aluWrite op r).rom0 = s.rom0 := by cases op <;> rfl
@[simp] theorem State.aluWrite_vram (op : AluOp) (r : ByteResult) : (s.aluWrite op r).vram = s.vram := by cases op <;> rfl
@[simp] theorem State.aluWrite_wram (op : AluOp) (r : ByteResult) : (s.aluWrite op r).wram = s.wram := by cases op <;> rfl
@[simp] theorem State.aluWrite_hram (op : AluOp) (r : ByteResult) : (s.aluWrite op r).hram = s.hram := by cases op <;> rfl
@[simp] theorem State.aluWrite_cfg (op : AluOp) (r : ByteResult) : (s.aluWrite op r).cfg = s.cfg := by cases op <;> rfl

@[simp] theorem State.setArray_regs (rg : Region) (m : Memory) : (s.setArray rg m).regs = s.regs := by cases rg <;> rfl
@[simp] theorem State.setArray_flags (rg : Region) (m : Memory) : (s.setArray rg m).flags = s.flags := by cases rg <;> rfl
@[simp] theorem State.setArray_pc (rg : Region) (m : Memory) : (s.setArray rg m).pc = s.pc := by cases rg <;> rfl
@[simp] theorem State.setArray_sp (rg : Region) (m : Memory) : (s.setArray rg m).sp = s.sp := by cases rg <;> rfl
@[simp] theorem State.setArray_run (rg : Region) (m : Memory) : (s.setArray rg m).run = s.run := by cases rg <;> rfl
@[simp] theorem State.setArray_clk (rg : Region) (m : Memory) : (s.setArray rg m).clk = s.clk := by cases rg <;> rfl
@[simp] theorem State.setArray_fault (rg : Region) (m : Memory) : (s.setArray rg m).fault = s.fault := by cases rg <;> rfl
@[simp] theorem State.setArray_bootActive (rg : Region) (m : Memory) : (s.setArray rg m).bootActive = s.bootActive := by cases rg <;> rfl
@[simp] theorem State.setArray_gpu (rg : Region) (m : Memory) : (s.setArray rg m).gpu = s.gpu := by cases rg <;> rfl
@[simp] theorem State.setArray_cfg (rg : Region) (m : Memory) : (s.setArray rg m).cfg = s.cfg := by cases rg <;> rfl

@[simp] theorem State.storeAt_regs (rg : Region) (a : Word) (v : Byte) : (s.storeAt rg a v).regs = s.regs := by cases rg <;> rfl
@[simp] theorem State.storeAt_flags (rg : Region) (a : Word) (v : Byte) : (s.storeAt rg a v).flags = s.flags := by cases rg <;> rfl
@[simp] theorem State.storeAt_pc (rg : Region) (a : Word) (v : Byte) : (s.storeAt rg a v).pc = s.pc := by cases rg <;> rfl
@[simp] theorem State.storeAt_sp (rg : Region) (a : Word) (v : Byte) : (s.storeAt rg a v).sp = s.sp := by cases rg <;> rfl
@[simp] theorem State.storeAt_run (rg : Region) (a : Word) (v : Byte) : (s.storeAt rg a v).run = s.run := by cases rg <;> rfl
@[simp] theorem State.storeAt_clk (rg : Region) (a : Word) (v : Byte) : (s.storeAt rg a v).clk = s.clk := by cases rg <;> rfl
@[simp] theorem State.storeAt_fault (rg : Region) (a : Word) (v : Byte) : (s.storeAt rg a v).fault = s.fault := by cases rg <;> rfl
@[simp] theorem State.storeAt_bootActive (rg : Region) (a : Word) (v : Byte) : (s.storeAt rg a v).bootActive = s.bootActive := by cases rg <;> rfl
@[simp] theorem State.storeAt_gpu (rg : Region) (a : Word) (v : Byte) : (s.storeAt rg a v).gpu = s.gpu := by cases rg <;> rfl
@[simp] theorem State.storeAt_cfg (rg : Region) (a : Word) (v : Byte) : (s.storeAt rg a v).cfg = s.cfg := by cases rg <;> rfl

/-! ## Reading registers back -/

@[simp] theorem Regs.get_set_self (r : Regs) (x : Reg8) (v : Byte) : (r.set x v).get x = v := by cases x <;> rfl

theorem Regs.get_set_ne (r : Regs) {x y : Reg8} (v : Byte) (h : y ≠ x) : (r.set x v).get y = r.get y := by
  cases x <;> cases y <;> first | rfl | exact absurd rfl h

@[simp] theorem State.reg_setReg_self (x : Reg8) (v : Byte) : (s.setReg x v).reg x = v := Regs.get_set_self s.regs x v

theorem State.reg_setReg_ne {x y : Reg8} (v : Byte) (h : y ≠ x) : (s.setReg x v).reg y = s.reg y :=
  Regs.get_set_ne s.regs v h

theorem pairHigh_ne_pairLow (p : Pair) : pairHigh p ≠ pairLow p := by cases p <;> decide

@[simp] theorem State.pair_setPair_self (p : Pair) (v : Word) : (s.setPair p v).pair p = v := by
  simp only [State.pair, State.reg, State.setPair_regs, Regs.get_set_self,
    Regs.get_set_ne _ _ (pairHigh_ne_pairLow p), joinBytes_high_low]

/-- Distinct pairs share no register. -/
theorem State.pair_setPair_ne {p q : Pair} (v : Word) (h : q ≠ p) : (s.setPair p v).pair q = s.pair q := by
  cases p <;> cases q <;> first | rfl | exact absurd rfl h

@[simp] theorem State.reg16_setReg16_self (x : Reg16) (v : Word) : (s.setReg16 x v).reg16 x = v := by
  cases x <;> simp [State.reg16, State.setReg16]

end Sys2Proof.Machine
end

