-- ==== Sys2Proof/Laws/Ops.lean ====
section
/-! SUPPORT. The bus, the stack and the operands: what each named operation can do, said once. -/

namespace Sys2Proof.Machine

/-! ## Ending in a value or a fault -/

@[simp] theorem onOk_ok {α : Type} (v : α) (k : α → Result) : onOk (.ok v) k = k v := rfl

@[simp] theorem onOk_error {α : Type} (f : Fault) (k : α → Result) : onOk (.error f) k = .fault f := rfl

theorem onOk_eq_next {α : Type} {x : Except Fault α} {k : α → Result} {t : State} :
    onOk x k = .next t ↔ ∃ v, x = .ok v ∧ k v = .next t := by
  cases x <;> simp [onOk]

theorem onOk_eq_fault {α : Type} {x : Except Fault α} {k : α → Result} {f : Fault} :
    onOk x k = .fault f ↔ x = .error f ∨ ∃ v, x = .ok v ∧ k v = .fault f := by
  cases x <;> simp [onOk]

/-! ## Dispatch -/

theorem State.region_congr {s t : State} (hb : t.bootActive = s.bootActive) (hc : t.cfg.regions = s.cfg.regions) (a : Word) :
    t.region a = s.region a := by
  simp only [State.region, hb, hc]

theorem State.place_congr {s t : State} (hc : t.cfg.regions = s.cfg.regions) (rg : Region) (a : Word) :
    t.place rg a = s.place rg a := by
  cases rg <;> simp only [State.place, State.regionFirst, hc]

@[simp] theorem State.region_storeAt (s : State) (rg : Region) (a b : Word) (v : Byte) :
    (s.storeAt rg a v).region b = s.region b :=
  State.region_congr (by simp) (by simp) b

@[simp] theorem State.place_storeAt (s : State) (rg rg' : Region) (a b : Word) (v : Byte) :
    (s.storeAt rg a v).place rg' b = s.place rg' b :=
  State.place_congr (by simp) rg' b

/-- An address lies inside the range of the region it selects. -/
theorem State.region_bounds {s : State} {a : Word} {rg : Region} (h : s.region a = some rg) :
    s.regionFirst rg ≤ a.toNat ∧
    (match rg with
     | .boot => s.bootActive = true ∧ a.toNat ≤ bootLast
     | .rom0 => a.toNat ≤ s.cfg.regions.rom0.last
     | .vram => a.toNat ≤ s.cfg.regions.vram.last
     | .wram => a.toNat ≤ s.cfg.regions.wram.last
     | .io => a.toNat ≤ s.cfg.regions.io.last
     | .hram => a.toNat ≤ s.cfg.regions.hram.last) := by
  unfold State.region at h
  split_ifs at h <;>
    (cases h; simp_all [State.regionFirst, inSpan])

/-- In one region, distinct addresses have distinct places. -/
theorem State.place_inj {s : State} {a b : Word} {rg : Region} (ha : s.region a = some rg) (hb : s.region b = some rg)
    (h : s.place rg a = s.place rg b) : a = b := by
  have h1 := (State.region_bounds ha).1
  have h2 := (State.region_bounds hb).1
  simp only [State.place] at h
  exact BitVec.eq_of_toNat_eq (by omega)

/-! ## Reads and writes -/

theorem State.memRead_congr {s t : State} (hb : t.bootActive = s.bootActive) (hc : t.cfg.regions = s.cfg.regions)
    (ha : ∀ rg, t.array rg = s.array rg) (a : Word) : t.memRead a = s.memRead a := by
  have h1 := ha .boot
  have h2 := ha .rom0
  have h3 := ha .vram
  have h4 := ha .wram
  have h5 := ha .hram
  simp only [State.array] at h1 h2 h3 h4 h5
  simp only [State.memRead, State.region_congr hb hc, State.place_congr hc, h1, h2, h3, h4, h5]

@[simp] theorem State.memRead_setReg (s : State) (x : Reg8) (v : Byte) (a : Word) : (s.setReg x v).memRead a = s.memRead a := rfl
@[simp] theorem State.memRead_setPair (s : State) (p : Pair) (v : Word) (a : Word) : (s.setPair p v).memRead a = s.memRead a := rfl
@[simp] theorem State.memRead_setFlags (s : State) (f : Flags) (a : Word) : (s.setFlags f).memRead a = s.memRead a := rfl
@[simp] theorem State.memRead_setPc (s : State) (v a : Word) : (s.setPc v).memRead a = s.memRead a := rfl
@[simp] theorem State.memRead_setSp (s : State) (v a : Word) : (s.setSp v).memRead a = s.memRead a := rfl
@[simp] theorem State.memRead_setRun (s : State) (r : RunState) (a : Word) : (s.setRun r).memRead a = s.memRead a := rfl
@[simp] theorem State.memRead_account (s : State) (n : Nat) (a : Word) : (s.account n).memRead a = s.memRead a := rfl
@[simp] theorem State.memRead_retire (s : State) (len : Word) (n : Nat) (a : Word) :
    (s.retire len n).memRead a = s.memRead a := rfl
@[simp] theorem State.memRead_jump (s : State) (pc : Word) (n : Nat) (a : Word) : (s.jump pc n).memRead a = s.memRead a := rfl

/-- A read either finds a region and gives a byte, or raises the unmapped-access fault on its own address. -/
theorem State.memRead_eq (s : State) (a : Word) :
    s.memRead a =
      match s.region a with
      | none => .error (.unmappedAccess a)
      | some .io => .ok 0x00
      | some rg => .ok (Memory.get (s.array rg) (s.place rg a)) := by
  unfold State.memRead
  cases s.region a with
  | none => rfl
  | some rg => cases rg <;> rfl

theorem State.memRead_error {s : State} {a : Word} {f : Fault} (h : s.memRead a = .error f) :
    f = .unmappedAccess a ∧ s.region a = none := by
  rw [State.memRead_eq] at h
  split at h <;> simp_all

theorem State.memRead_ok_of_mapped {s : State} {a : Word} (h : s.mapped a) : ∃ v, s.memRead a = .ok v := by
  rw [State.memRead_eq]
  cases hr : s.region a with
  | none => exact absurd hr h
  | some rg => cases rg <;> exact ⟨_, rfl⟩

theorem State.memWrite_error {s : State} {a : Word} {v : Byte} {f : Fault} (h : s.memWrite a v = .error f) :
    f = .unmappedAccess a ∧ s.region a = none := by
  unfold State.memWrite at h
  split at h
  · simp_all
  · split at h <;> simp_all

/-- Everything a write can do: raise on an unmapped address, drop, or store one byte. -/
theorem State.memWrite_ok {s t : State} {a : Word} {v : Byte} (h : s.memWrite a v = .ok t) :
    ∃ rg, s.region a = some rg ∧ t = if storesWrites rg then s.storeAt rg a v else s := by
  unfold State.memWrite at h
  split at h
  · cases h
  · rename_i rg hr
    refine ⟨rg, hr, ?_⟩
    split_ifs at h ⊢ <;> simp_all

theorem State.memWrite_ok_of_mapped {s : State} {a : Word} (v : Byte) (h : s.mapped a) : ∃ t, s.memWrite a v = .ok t := by
  unfold State.memWrite
  cases hr : s.region a with
  | none => exact absurd hr h
  | some rg =>
    dsimp only
    split_ifs
    · exact ⟨_, rfl⟩
    · exact ⟨_, rfl⟩

theorem State.array_storeAt_self (s : State) (rg : Region) (a : Word) (v : Byte) (h : rg ≠ .io) :
    (s.storeAt rg a v).array rg = Memory.set (s.array rg) (s.place rg a) v := by
  cases rg <;> first | rfl | exact absurd rfl h

theorem State.array_storeAt_ne (s : State) {rg rg' : Region} (a : Word) (v : Byte) (h : rg' ≠ rg) :
    (s.storeAt rg a v).array rg' = s.array rg' := by
  cases rg <;> cases rg' <;> first | rfl | exact absurd rfl h

/-- The canonical form of every array (the size bounds aside). -/
theorem State.wf_of_arraysOk {s : State} (h : s.arraysOk = true) (rg : Region) : (s.array rg).wf = true := by
  simp only [State.arraysOk, arrayOk, Bool.and_eq_true] at h
  cases rg <;> (simp_all [State.array]; try rfl)

/-- A read of any address after storing one byte into an array. -/
theorem State.memRead_storeAt {s : State} {rg : Region} {a : Word} (v : Byte) (hs : s.arraysOk = true)
    (ha : s.region a = some rg) (hrg : rg ≠ .io) (b : Word) :
    (s.storeAt rg a v).memRead b = if b = a then .ok v else s.memRead b := by
  rw [State.memRead_eq, State.memRead_eq, State.region_storeAt]
  by_cases hb : b = a
  · subst hb
    rw [ha, if_pos rfl]
    have key : Memory.get ((s.storeAt rg b v).array rg) ((s.storeAt rg b v).place rg b) = v := by
      rw [State.array_storeAt_self s rg b v hrg, State.place_storeAt]
      exact Memory.get_set_self _ v (State.wf_of_arraysOk hs rg)
    cases rg <;> exact congrArg Except.ok key
  · rw [if_neg hb]
    cases hr : s.region b with
    | none => rfl
    | some rg' =>
      have key : Memory.get ((s.storeAt rg a v).array rg') ((s.storeAt rg a v).place rg' b) =
          Memory.get (s.array rg') (s.place rg' b) := by
        rw [State.place_storeAt]
        by_cases hrr : rg' = rg
        · subst hrr
          rw [State.array_storeAt_self s rg' a v hrg]
          exact Memory.get_set_ne v fun hp => hb (State.place_inj hr ha hp)
        · rw [State.array_storeAt_ne s a v hrr]
      cases rg' <;> first | rfl | exact congrArg Except.ok key

/-- A read of any address after a bus write: the written byte at its address if the region stores writes, else as before. -/
theorem State.memRead_memWrite {s t : State} {a : Word} {v : Byte} (hs : s.arraysOk = true) (h : s.memWrite a v = .ok t)
    (b : Word) : t.memRead b = if b = a ∧ s.isRam a then .ok v else s.memRead b := by
  obtain ⟨rg, hr, rfl⟩ := State.memWrite_ok h
  by_cases hst : storesWrites rg = true
  · have hio : rg ≠ .io := by rintro rfl; exact absurd hst (by decide)
    have hram : s.isRam a := by cases rg <;> simp_all [storesWrites, State.isRam]
    simp only [hst, if_true, State.memRead_storeAt v hs hr hio, hram, and_true]
  · have hram : ¬ s.isRam a := by cases rg <;> simp_all [storesWrites, State.isRam]
    simp only [hst, hram, and_false, if_false]
    rfl

/-! ## The arrays stay sound -/

theorem State.storeAt_arraysOk {s : State} {rg : Region} {a : Word} (v : Byte) (hs : s.arraysOk = true)
    (ha : s.region a = some rg) : (s.storeAt rg a v).arraysOk = true := by
  have hb := State.region_bounds ha
  simp only [State.arraysOk, arrayOk, Bool.and_eq_true] at hs ⊢
  have hset : ∀ {m : Memory} {size : Nat}, m.wf = true → m.within size = true → s.place rg a < size →
      (Memory.set m (s.place rg a) v).wf = true ∧ (Memory.set m (s.place rg a) v).within size = true :=
    fun h1 h2 h3 => ⟨Memory.set_wf _ v h1, Memory.set_within v h2 h3⟩
  cases rg <;>
    simp only [State.storeAt, State.setArray, State.array, State.place, State.regionFirst] at hb hset ⊢
  · exact ⟨⟨⟨⟨hset hs.1.1.1.1.1 hs.1.1.1.1.2 (by simp only [bootSize, bootLast] at *; omega), hs.1.1.1.2⟩, hs.1.1.2⟩, hs.1.2⟩, hs.2⟩
  · exact ⟨⟨⟨⟨hs.1.1.1.1, hset hs.1.1.1.2.1 hs.1.1.1.2.2 (by simp only [spanSize]; omega)⟩, hs.1.1.2⟩, hs.1.2⟩, hs.2⟩
  · exact ⟨⟨⟨hs.1.1.1, hset hs.1.1.2.1 hs.1.1.2.2 (by simp only [spanSize]; omega)⟩, hs.1.2⟩, hs.2⟩
  · exact ⟨⟨hs.1.1, hset hs.1.2.1 hs.1.2.2 (by simp only [spanSize]; omega)⟩, hs.2⟩
  · exact hs
  · exact ⟨hs.1, hset hs.2.1 hs.2.2 (by simp only [spanSize]; omega)⟩

/-- A write keeps the arrays sound. -/
theorem State.memWrite_arraysOk {s t : State} {a : Word} {v : Byte} (hs : s.arraysOk = true) (h : s.memWrite a v = .ok t) :
    t.arraysOk = true := by
  obtain ⟨rg, hr, rfl⟩ := State.memWrite_ok h
  split_ifs
  · exact State.storeAt_arraysOk v hs hr
  · exact hs

/-- What a write leaves alone: everything but the arrays of VRAM, WRAM and HRAM. -/
structure State.SameButRam (s t : State) : Prop where
  regs : t.regs = s.regs
  flags : t.flags = s.flags
  pc : t.pc = s.pc
  sp : t.sp = s.sp
  run : t.run = s.run
  clk : t.clk = s.clk
  fault : t.fault = s.fault
  bootActive : t.bootActive = s.bootActive
  gpu : t.gpu = s.gpu
  boot : t.boot = s.boot
  rom0 : t.rom0 = s.rom0
  cfg : t.cfg = s.cfg

theorem State.SameButRam.rfl' (s : State) : s.SameButRam s := ⟨rfl, rfl, rfl, rfl, rfl, rfl, rfl, rfl, rfl, rfl, rfl, rfl⟩

theorem State.SameButRam.trans {s t u : State} (h : s.SameButRam t) (h' : t.SameButRam u) : s.SameButRam u :=
  ⟨h'.regs.trans h.regs, h'.flags.trans h.flags, h'.pc.trans h.pc, h'.sp.trans h.sp, h'.run.trans h.run,
    h'.clk.trans h.clk, h'.fault.trans h.fault, h'.bootActive.trans h.bootActive, h'.gpu.trans h.gpu,
    h'.boot.trans h.boot, h'.rom0.trans h.rom0, h'.cfg.trans h.cfg⟩

theorem State.memWrite_same {s t : State} {a : Word} {v : Byte} (h : s.memWrite a v = .ok t) : s.SameButRam t := by
  obtain ⟨rg, -, rfl⟩ := State.memWrite_ok h
  split_ifs with hst
  · cases rg <;> first | exact absurd hst (by decide) | exact ⟨rfl, rfl, rfl, rfl, rfl, rfl, rfl, rfl, rfl, rfl, rfl, rfl⟩
  · exact State.SameButRam.rfl' s

/-! ## Two-byte accesses and the stack -/

theorem State.memRead2_ok {s : State} {a v : Word} (h : s.memRead2 a = .ok v) :
    ∃ lo hi, s.memRead a = .ok lo ∧ s.memRead (a + 1) = .ok hi ∧ v = joinBytes hi lo := by
  unfold State.memRead2 at h
  split at h
  · cases h
  · split at h
    · cases h
    · exact ⟨_, _, ‹_›, ‹_›, by simpa using h.symm⟩

theorem State.memWrite2_ok {s t : State} {a v : Word} (h : s.memWrite2 a v = .ok t) :
    ∃ u, s.memWrite a (lowByte v) = .ok u ∧ u.memWrite (a + 1) (highByte v) = .ok t := by
  unfold State.memWrite2 at h
  split at h
  · cases h
  · exact ⟨_, ‹_›, h⟩

theorem State.push16_ok {s t : State} {v : Word} (h : s.push16 v = .ok t) :
    ∃ u w, s.memWrite (s.sp - 1) (highByte v) = .ok u ∧ u.memWrite (s.sp - 2) (lowByte v) = .ok w ∧
      t = w.setSp (s.sp - 2) := by
  unfold State.push16 at h
  split at h
  · cases h
  · split at h
    · cases h
    · exact ⟨_, _, ‹_›, ‹_›, by simpa using h.symm⟩

theorem State.pop16_ok {s t : State} {v : Word} (h : s.pop16 = .ok (v, t)) :
    s.memRead2 s.sp = .ok v ∧ t = s.setSp (s.sp + 2) := by
  unfold State.pop16 at h
  split at h
  · cases h
  · rename_i w hw
    simp only [Except.ok.injEq, Prod.mk.injEq] at h
    exact ⟨by rw [hw, h.1], h.2.symm⟩

end Sys2Proof.Machine
end

