-- ==== Sys2Proof/Laws/Instr.lean ====
section
/-! SUPPORT. Everything each shared instruction operation can do when it answers a next state, and everything a step can do. The
provers cite these instead of unfolding the operations. -/

namespace Sys2Proof.Machine

variable {s t : State}

theorem aluInstr_next {op : AluOp} {x : Src8} (h : aluInstr op x s = .next t) :
    ∃ v, s.readSrc8 x = .ok v ∧
      t = (s.aluWrite op (aluResult op (s.reg .A) v s.flags.c)).retire (src8Length x) (src8Cycles s.cfg.cyc x) := by
  obtain ⟨v, hv, ht⟩ := onOk_eq_next.mp h
  exact ⟨v, hv, by simpa using ht.symm⟩

theorem incInstr_next {x : Loc8} (h : incInstr x s = .next t) :
    ∃ old u, s.readLoc8 x = .ok old ∧ s.writeLoc8 x (incByte old s.flags).value = .ok u ∧
      t = (u.setFlags (incByte old s.flags).flags).retire 1 (loc8Cycles s.cfg.cyc.incdecR s.cfg.cyc.incdecHl x) := by
  obtain ⟨old, ho, h⟩ := onOk_eq_next.mp h
  obtain ⟨u, hu, ht⟩ := onOk_eq_next.mp h
  exact ⟨old, u, ho, hu, by simpa using ht.symm⟩

theorem decInstr_next {x : Loc8} (h : decInstr x s = .next t) :
    ∃ old u, s.readLoc8 x = .ok old ∧ s.writeLoc8 x (decByte old s.flags).value = .ok u ∧
      t = (u.setFlags (decByte old s.flags).flags).retire 1 (loc8Cycles s.cfg.cyc.incdecR s.cfg.cyc.incdecHl x) := by
  obtain ⟨old, ho, h⟩ := onOk_eq_next.mp h
  obtain ⟨u, hu, ht⟩ := onOk_eq_next.mp h
  exact ⟨old, u, ho, hu, by simpa using ht.symm⟩

theorem inc16Instr_next {x : Reg16} (h : inc16Instr x s = .next t) :
    t = (s.setReg16 x (s.reg16 x + 1)).retire 1 s.cfg.cyc.incdecRr := by
  simpa [inc16Instr] using h.symm

theorem dec16Instr_next {x : Reg16} (h : dec16Instr x s = .next t) :
    t = (s.setReg16 x (s.reg16 x - 1)).retire 1 s.cfg.cyc.incdecRr := by
  simpa [dec16Instr] using h.symm

theorem addHlInstr_next {x : Reg16} (h : addHlInstr x s = .next t) :
    t = ((s.setPair .HL (s.pair .HL + s.reg16 x)).setFlags (addWordFlags (s.pair .HL) (s.reg16 x) s.flags)).retire 1
      s.cfg.cyc.addHlRr := by
  simpa [addHlInstr] using h.symm

theorem loadReg_next {rd rs : Reg8} (h : loadReg rd rs s = .next t) :
    t = (s.setReg rd (s.reg rs)).retire 1 s.cfg.cyc.ldRR := by
  simpa [loadReg] using h.symm

theorem loadImm_next {rd : Reg8} (h : loadImm rd s = .next t) :
    ∃ v, s.imm8 = .ok v ∧ t = (s.setReg rd v).retire 2 s.cfg.cyc.ldRD8 := by
  obtain ⟨v, hv, ht⟩ := onOk_eq_next.mp h
  exact ⟨v, hv, by simpa using ht.symm⟩

theorem loadMem_next {rd : Reg8} {m : MemOperand} {n : Nat} (h : loadMem rd m n s = .next t) :
    ∃ addr v, s.effAddr m = .ok addr ∧ s.memRead addr = .ok v ∧
      t = ((s.setReg rd v).postEffect m addr).retire (memOperandLength m) n := by
  obtain ⟨addr, ha, h⟩ := onOk_eq_next.mp h
  obtain ⟨v, hv, ht⟩ := onOk_eq_next.mp h
  exact ⟨addr, v, ha, hv, by simpa using ht.symm⟩

theorem storeMem_next {m : MemOperand} {v : Byte} {n : Nat} (h : storeMem m v n s = .next t) :
    ∃ addr u, s.effAddr m = .ok addr ∧ s.memWrite addr v = .ok u ∧
      t = (u.postEffect m addr).retire (memOperandLength m) n := by
  obtain ⟨addr, ha, h⟩ := onOk_eq_next.mp h
  obtain ⟨u, hu, ht⟩ := onOk_eq_next.mp h
  exact ⟨addr, u, ha, hu, by simpa using ht.symm⟩

theorem storeImm_next (h : storeImm s = .next t) :
    ∃ v u, s.imm8 = .ok v ∧ s.memWrite (s.pair .HL) v = .ok u ∧ t = u.retire 2 s.cfg.cyc.ldHlD8 := by
  obtain ⟨v, hv, h⟩ := onOk_eq_next.mp h
  obtain ⟨u, hu, ht⟩ := onOk_eq_next.mp h
  exact ⟨v, u, hv, hu, by simpa using ht.symm⟩

theorem loadWordImm_next {x : Reg16} (h : loadWordImm x s = .next t) :
    ∃ v, s.imm16 = .ok v ∧ t = (s.setReg16 x v).retire 3 s.cfg.cyc.ldRrD16 := by
  obtain ⟨v, hv, ht⟩ := onOk_eq_next.mp h
  exact ⟨v, hv, by simpa using ht.symm⟩

theorem storeSp_next (h : storeSp s = .next t) :
    ∃ addr u, s.imm16 = .ok addr ∧ s.memWrite2 addr s.sp = .ok u ∧ t = u.retire 3 s.cfg.cyc.ldA16Sp := by
  obtain ⟨addr, ha, h⟩ := onOk_eq_next.mp h
  obtain ⟨u, hu, ht⟩ := onOk_eq_next.mp h
  exact ⟨addr, u, ha, hu, by simpa using ht.symm⟩

theorem pushWord_next {v : Word} (h : pushWord v s = .next t) :
    ∃ u, s.push16 v = .ok u ∧ t = u.retire 1 s.cfg.cyc.push := by
  obtain ⟨u, hu, ht⟩ := onOk_eq_next.mp h
  exact ⟨u, hu, by simpa using ht.symm⟩

theorem popWord_next {write : State → Word → State} (h : popWord write s = .next t) :
    ∃ v, s.memRead2 s.sp = .ok v ∧ t = (write (s.setSp (s.sp + 2)) v).retire 1 s.cfg.cyc.pop := by
  obtain ⟨⟨v, u⟩, hp, ht⟩ := onOk_eq_next.mp h
  obtain ⟨hv, rfl⟩ := State.pop16_ok hp
  exact ⟨v, hv, by simpa using ht.symm⟩

theorem jumpAbs_next (h : jumpAbs s = .next t) :
    ∃ target, s.imm16 = .ok target ∧ t = s.jump target s.cfg.cyc.jpTaken := by
  obtain ⟨v, hv, ht⟩ := onOk_eq_next.mp h
  exact ⟨v, hv, by simpa using ht.symm⟩

theorem jumpAbsIf_next {cc : Cond} (h : jumpAbsIf cc s = .next t) :
    (s.flags.holds cc = true ∧ jumpAbs s = .next t) ∨
    (s.flags.holds cc = false ∧ t = s.retire 3 s.cfg.cyc.jpNotTaken) := by
  unfold jumpAbsIf at h
  split at h
  · exact .inl ⟨‹_›, h⟩
  · exact .inr ⟨Bool.eq_false_iff.mpr ‹_›, by simpa using h.symm⟩

theorem jumpRel_next (h : jumpRel s = .next t) :
    ∃ e, s.imm8 = .ok e ∧ t = s.jump (relTarget s.pc e) s.cfg.cyc.jrTaken := by
  obtain ⟨v, hv, ht⟩ := onOk_eq_next.mp h
  exact ⟨v, hv, by simpa using ht.symm⟩

theorem jumpRelIf_next {cc : Cond} (h : jumpRelIf cc s = .next t) :
    (s.flags.holds cc = true ∧ jumpRel s = .next t) ∨
    (s.flags.holds cc = false ∧ t = s.retire 2 s.cfg.cyc.jrNotTaken) := by
  unfold jumpRelIf at h
  split at h
  · exact .inl ⟨‹_›, h⟩
  · exact .inr ⟨Bool.eq_false_iff.mpr ‹_›, by simpa using h.symm⟩

theorem callAbs_next (h : callAbs s = .next t) :
    ∃ target u, s.imm16 = .ok target ∧ s.push16 (s.pc + 3) = .ok u ∧ t = u.jump target s.cfg.cyc.callTaken := by
  obtain ⟨v, hv, h⟩ := onOk_eq_next.mp h
  obtain ⟨u, hu, ht⟩ := onOk_eq_next.mp h
  exact ⟨v, u, hv, hu, by simpa using ht.symm⟩

theorem callAbsIf_next {cc : Cond} (h : callAbsIf cc s = .next t) :
    (s.flags.holds cc = true ∧ callAbs s = .next t) ∨
    (s.flags.holds cc = false ∧ t = s.retire 3 s.cfg.cyc.callNotTaken) := by
  unfold callAbsIf at h
  split at h
  · exact .inl ⟨‹_›, h⟩
  · exact .inr ⟨Bool.eq_false_iff.mpr ‹_›, by simpa using h.symm⟩

theorem returnTo_next {n : Nat} (h : returnTo n s = .next t) :
    ∃ v, s.memRead2 s.sp = .ok v ∧ t = (s.setSp (s.sp + 2)).jump v n := by
  obtain ⟨⟨v, u⟩, hp, ht⟩ := onOk_eq_next.mp h
  obtain ⟨hv, rfl⟩ := State.pop16_ok hp
  exact ⟨v, hv, by simpa using ht.symm⟩

theorem returnIf_next {cc : Cond} (h : returnIf cc s = .next t) :
    (s.flags.holds cc = true ∧ returnTo s.cfg.cyc.retCcTaken s = .next t) ∨
    (s.flags.holds cc = false ∧ t = s.retire 1 s.cfg.cyc.retCcNotTaken) := by
  unfold returnIf at h
  split at h
  · exact .inl ⟨‹_›, h⟩
  · exact .inr ⟨Bool.eq_false_iff.mpr ‹_›, by simpa using h.symm⟩

theorem rotAcc_next {d : RotDir} {w : RotVariant} (h : rotAcc d w s = .next t) :
    t = ((s.setReg .A (rotate (s.reg .A) d w s.flags.c).1).setFlags
      ⟨false, false, false, (rotate (s.reg .A) d w s.flags.c).2⟩).retire 1 s.cfg.cyc.rotA := by
  simpa [rotAcc] using h.symm

theorem rotInstr_next {k : RotOp} {x : Loc8} (h : rotInstr k x s = .next t) :
    ∃ v u, s.readLoc8 x = .ok v ∧ s.writeLoc8 x (rotByte k v s.flags.c).value = .ok u ∧
      t = (u.setFlags (rotByte k v s.flags.c).flags).retire 2 (loc8Cycles s.cfg.cyc.cbRotR s.cfg.cyc.cbRotHl x) := by
  obtain ⟨v, hv, h⟩ := onOk_eq_next.mp h
  obtain ⟨u, hu, ht⟩ := onOk_eq_next.mp h
  exact ⟨v, u, hv, hu, by simpa using ht.symm⟩

theorem bitInstr_next {b : Fin 8} {x : Loc8} (h : bitInstr b x s = .next t) :
    ∃ v, s.readLoc8 x = .ok v ∧
      t = (s.setFlags (bitFlags b v s.flags)).retire 2 (loc8Cycles s.cfg.cyc.cbBitR s.cfg.cyc.cbBitHl x) := by
  obtain ⟨v, hv, ht⟩ := onOk_eq_next.mp h
  exact ⟨v, hv, by simpa using ht.symm⟩

/-- Writing a register or (HL): either one register, or a bus write. -/
theorem State.writeLoc8_ok {x : Loc8} {v : Byte} (h : s.writeLoc8 x v = .ok t) :
    (∃ r, x = .reg r ∧ t = s.setReg r v) ∨ (x = .indHL ∧ s.memWrite (s.pair .HL) v = .ok t) := by
  cases x with
  | reg r => exact .inl ⟨r, rfl, by simpa [State.writeLoc8] using h.symm⟩
  | indHL => exact .inr ⟨rfl, h⟩

/-- Everything a step that answers a next state can be: a halted machine's, a fault taken at the fetch or in execution, or an
executed instruction. -/
theorem step_next (h : step s = .next t) :
    s.fault = none ∧
    ((s.run = .halted ∧ t = s) ∨
     (s.run = .running ∧ ∃ f, s.fetchInstr = .error f ∧ t = { s with fault := some f }) ∨
     (s.run = .running ∧ ∃ i, s.fetchInstr = .ok i ∧
       (exec i s = .next t ∨ ∃ f, exec i s = .fault f ∧ t = { s with fault := some f }))) := by
  unfold step at h
  split at h
  · cases h
  · rename_i hf
    refine ⟨hf, ?_⟩
    split at h
    · exact .inl ⟨‹_›, by simpa using h.symm⟩
    · split at h
      · exact .inr (.inl ⟨‹_›, _, ‹_›, by simpa [State.takeFault] using h.symm⟩)
      · rename_i i hi
        refine .inr (.inr ⟨‹_›, i, hi, ?_⟩)
        unfold State.settle at h
        split at h
        · exact .inl (by simp_all)
        · exact .inr ⟨_, ‹_›, by simpa [State.takeFault] using h.symm⟩
        · cases h

/-- Everything a fetch can raise: an unmapped access at PC, or at the byte after the prefix. -/
theorem State.fetchInstr_error {f : Fault} (h : s.fetchInstr = .error f) :
    ∃ a, f = .unmappedAccess a ∧ s.region a = none ∧ (a = s.pc ∨ a = s.pc + 1) := by
  unfold State.fetchInstr at h
  split at h
  · rename_i g hg
    obtain ⟨rfl, hr⟩ := State.memRead_error hg
    exact ⟨s.pc, by simpa using h.symm, hr, .inl rfl⟩
  · split at h
    · split at h
      · rename_i g hg
        obtain ⟨rfl, hr⟩ := State.memRead_error hg
        exact ⟨s.pc + 1, by simpa using h.symm, hr, .inr rfl⟩
      · cases h
    · cases h

end Sys2Proof.Machine
end

