-- ==== Sys2Proof/Laws/Forms.lean ====
section
/-! SUPPORT. The 324 meanings are uses of 33 shared operations. A fact about every instruction is proved by `exec_eq_run` and
one case per operation. -/

namespace Sys2Proof.Machine

/-- A shared operation with its operands. -/
inductive Form where
  | alu (op : AluOp) (x : Src8)
  | inc8 (x : Loc8)
  | dec8 (x : Loc8)
  | inc16 (x : Reg16)
  | dec16 (x : Reg16)
  | addHl (x : Reg16)
  | loadReg (rd rs : Reg8)
  | loadImm (rd : Reg8)
  | loadMem (rd : Reg8) (m : MemOperand)
  | storeMem (m : MemOperand) (rs : Reg8)
  | storeImm
  | loadWordImm (x : Reg16)
  | storeSp
  | loadSpHl
  | push (p : Pair)
  | pushAf
  | pop (p : Pair)
  | popAf
  | jumpAbs
  | jumpAbsIf (cc : Cond)
  | jumpHl
  | jumpRel
  | jumpRelIf (cc : Cond)
  | callAbs
  | callAbsIf (cc : Cond)
  | ret
  | retIf (cc : Cond)
  | rotAcc (dir : RotDir) (variant : RotVariant)
  | rot (k : RotOp) (x : Loc8)
  | bit (b : Fin 8) (x : Loc8)
  | nop
  | halt
  | unknown (opcode : Opcode)
  deriving DecidableEq, Repr

/-- The cost of a load from a memory operand. -/
def loadCost (c : CycleTable) : MemOperand → Nat
  | .indBC => c.ldARr
  | .indDE => c.ldARr
  | .indHL => c.ldRHl
  | .indHLinc => c.ldAHli
  | .indHLdec => c.ldAHld
  | .indC => c.ldAC
  | .inda8 => c.ldhAA8
  | .inda16 => c.ldAA16

/-- The cost of a store to a memory operand. -/
def storeCost (c : CycleTable) : MemOperand → Nat
  | .indBC => c.ldRrA
  | .indDE => c.ldRrA
  | .indHL => c.ldHlR
  | .indHLinc => c.ldHliA
  | .indHLdec => c.ldHldA
  | .indC => c.ldCA
  | .inda8 => c.ldhA8A
  | .inda16 => c.ldA16A

/-- What the operation does. -/
def Form.run (s : State) : Form → Result
  | .alu op x => aluInstr op x s
  | .inc8 x => incInstr x s
  | .dec8 x => decInstr x s
  | .inc16 x => inc16Instr x s
  | .dec16 x => dec16Instr x s
  | .addHl x => addHlInstr x s
  | .loadReg rd rs => Machine.loadReg rd rs s
  | .loadImm rd => Machine.loadImm rd s
  | .loadMem rd m => Machine.loadMem rd m (loadCost s.cfg.cyc m) s
  | .storeMem m rs => Machine.storeMem m (s.reg rs) (storeCost s.cfg.cyc m) s
  | .storeImm => Machine.storeImm s
  | .loadWordImm x => Machine.loadWordImm x s
  | .storeSp => Machine.storeSp s
  | .loadSpHl => execLd_SP_HL s
  | .push p => pushWord (s.pair p) s
  | .pushAf => pushWord s.af s
  | .pop p => popWord (fun t v => t.setPair p v) s
  | .popAf => popWord State.setAf s
  | .jumpAbs => Machine.jumpAbs s
  | .jumpAbsIf cc => Machine.jumpAbsIf cc s
  | .jumpHl => execJp_HL s
  | .jumpRel => Machine.jumpRel s
  | .jumpRelIf cc => Machine.jumpRelIf cc s
  | .callAbs => Machine.callAbs s
  | .callAbsIf cc => Machine.callAbsIf cc s
  | .ret => returnTo s.cfg.cyc.ret s
  | .retIf cc => returnIf cc s
  | .rotAcc dir variant => Machine.rotAcc dir variant s
  | .rot k x => rotInstr k x s
  | .bit b x => bitInstr b x s
  | .nop => execNop s
  | .halt => execHalt s
  | .unknown opcode => unknownInstr opcode s

/-- A cost that depends on a condition. -/
def condCost (f : Flags) (cc : Cond) (taken notTaken : Nat) : Nat := if f.holds cc then taken else notTaken

/-- What the operation costs when it completes. -/
def Form.cycles (c : CycleTable) (f : Flags) : Form → Nat
  | .alu _ x => src8Cycles c x
  | .inc8 x => loc8Cycles c.incdecR c.incdecHl x
  | .dec8 x => loc8Cycles c.incdecR c.incdecHl x
  | .inc16 _ => c.incdecRr
  | .dec16 _ => c.incdecRr
  | .addHl _ => c.addHlRr
  | .loadReg _ _ => c.ldRR
  | .loadImm _ => c.ldRD8
  | .loadMem _ m => loadCost c m
  | .storeMem m _ => storeCost c m
  | .storeImm => c.ldHlD8
  | .loadWordImm _ => c.ldRrD16
  | .storeSp => c.ldA16Sp
  | .loadSpHl => c.ldSpHl
  | .push _ => c.push
  | .pushAf => c.push
  | .pop _ => c.pop
  | .popAf => c.pop
  | .jumpAbs => c.jpTaken
  | .jumpAbsIf cc => condCost f cc c.jpTaken c.jpNotTaken
  | .jumpHl => c.jpHl
  | .jumpRel => c.jrTaken
  | .jumpRelIf cc => condCost f cc c.jrTaken c.jrNotTaken
  | .callAbs => c.callTaken
  | .callAbsIf cc => condCost f cc c.callTaken c.callNotTaken
  | .ret => c.ret
  | .retIf cc => condCost f cc c.retCcTaken c.retCcNotTaken
  | .rotAcc _ _ => c.rotA
  | .rot _ x => loc8Cycles c.cbRotR c.cbRotHl x
  | .bit _ x => loc8Cycles c.cbBitR c.cbBitHl x
  | .nop => c.nop
  | .halt => c.halt
  | .unknown _ => 0

/-- The operation that an instruction uses. -/
def formOf : Instr → Form
  | .add_A_B => .alu .add (.reg .B)
  | .add_A_C => .alu .add (.reg .C)
  | .add_A_D => .alu .add (.reg .D)
  | .add_A_E => .alu .add (.reg .E)
  | .add_A_H => .alu .add (.reg .H)
  | .add_A_L => .alu .add (.reg .L)
  | .add_A_indHL => .alu .add .indHL
  | .add_A_A => .alu .add (.reg .A)
  | .adc_A_B => .alu .adc (.reg .B)
  | .adc_A_C => .alu .adc (.reg .C)
  | .adc_A_D => .alu .adc (.reg .D)
  | .adc_A_E => .alu .adc (.reg .E)
  | .adc_A_H => .alu .adc (.reg .H)
  | .adc_A_L => .alu .adc (.reg .L)
  | .adc_A_indHL => .alu .adc .indHL
  | .adc_A_A => .alu .adc (.reg .A)
  | .sub_A_B => .alu .sub (.reg .B)
  | .sub_A_C => .alu .sub (.reg .C)
  | .sub_A_D => .alu .sub (.reg .D)
  | .sub_A_E => .alu .sub (.reg .E)
  | .sub_A_H => .alu .sub (.reg .H)
  | .sub_A_L => .alu .sub (.reg .L)
  | .sub_A_indHL => .alu .sub .indHL
  | .sub_A_A => .alu .sub (.reg .A)
  | .sbc_A_B => .alu .sbc (.reg .B)
  | .sbc_A_C => .alu .sbc (.reg .C)
  | .sbc_A_D => .alu .sbc (.reg .D)
  | .sbc_A_E => .alu .sbc (.reg .E)
  | .sbc_A_H => .alu .sbc (.reg .H)
  | .sbc_A_L => .alu .sbc (.reg .L)
  | .sbc_A_indHL => .alu .sbc .indHL
  | .sbc_A_A => .alu .sbc (.reg .A)
  | .and_A_B => .alu .and (.reg .B)
  | .and_A_C => .alu .and (.reg .C)
  | .and_A_D => .alu .and (.reg .D)
  | .and_A_E => .alu .and (.reg .E)
  | .and_A_H => .alu .and (.reg .H)
  | .and_A_L => .alu .and (.reg .L)
  | .and_A_indHL => .alu .and .indHL
  | .and_A_A => .alu .and (.reg .A)
  | .xor_A_B => .alu .xor (.reg .B)
  | .xor_A_C => .alu .xor (.reg .C)
  | .xor_A_D => .alu .xor (.reg .D)
  | .xor_A_E => .alu .xor (.reg .E)
  | .xor_A_H => .alu .xor (.reg .H)
  | .xor_A_L => .alu .xor (.reg .L)
  | .xor_A_indHL => .alu .xor .indHL
  | .xor_A_A => .alu .xor (.reg .A)
  | .or_A_B => .alu .or (.reg .B)
  | .or_A_C => .alu .or (.reg .C)
  | .or_A_D => .alu .or (.reg .D)
  | .or_A_E => .alu .or (.reg .E)
  | .or_A_H => .alu .or (.reg .H)
  | .or_A_L => .alu .or (.reg .L)
  | .or_A_indHL => .alu .or .indHL
  | .or_A_A => .alu .or (.reg .A)
  | .cp_A_B => .alu .cp (.reg .B)
  | .cp_A_C => .alu .cp (.reg .C)
  | .cp_A_D => .alu .cp (.reg .D)
  | .cp_A_E => .alu .cp (.reg .E)
  | .cp_A_H => .alu .cp (.reg .H)
  | .cp_A_L => .alu .cp (.reg .L)
  | .cp_A_indHL => .alu .cp .indHL
  | .cp_A_A => .alu .cp (.reg .A)
  | .add_A_d8 => .alu .add .d8
  | .adc_A_d8 => .alu .adc .d8
  | .sub_A_d8 => .alu .sub .d8
  | .sbc_A_d8 => .alu .sbc .d8
  | .and_A_d8 => .alu .and .d8
  | .xor_A_d8 => .alu .xor .d8
  | .or_A_d8 => .alu .or .d8
  | .cp_A_d8 => .alu .cp .d8
  | .inc_BC => .inc16 .BC
  | .inc_B => .inc8 (.reg .B)
  | .dec_B => .dec8 (.reg .B)
  | .add_HL_BC => .addHl .BC
  | .dec_BC => .dec16 .BC
  | .inc_C => .inc8 (.reg .C)
  | .dec_C => .dec8 (.reg .C)
  | .inc_DE => .inc16 .DE
  | .inc_D => .inc8 (.reg .D)
  | .dec_D => .dec8 (.reg .D)
  | .add_HL_DE => .addHl .DE
  | .dec_DE => .dec16 .DE
  | .inc_E => .inc8 (.reg .E)
  | .dec_E => .dec8 (.reg .E)
  | .inc_HL => .inc16 .HL
  | .inc_H => .inc8 (.reg .H)
  | .dec_H => .dec8 (.reg .H)
  | .add_HL_HL => .addHl .HL
  | .dec_HL => .dec16 .HL
  | .inc_L => .inc8 (.reg .L)
  | .dec_L => .dec8 (.reg .L)
  | .inc_SP => .inc16 .SP
  | .inc_indHL => .inc8 .indHL
  | .dec_indHL => .dec8 .indHL
  | .add_HL_SP => .addHl .SP
  | .dec_SP => .dec16 .SP
  | .inc_A => .inc8 (.reg .A)
  | .dec_A => .dec8 (.reg .A)
  | .ld_indBC_A => .storeMem .indBC .A
  | .ld_B_d8 => .loadImm .B
  | .ld_A_indBC => .loadMem .A .indBC
  | .ld_C_d8 => .loadImm .C
  | .ld_indDE_A => .storeMem .indDE .A
  | .ld_D_d8 => .loadImm .D
  | .ld_A_indDE => .loadMem .A .indDE
  | .ld_E_d8 => .loadImm .E
  | .ld_indHLinc_A => .storeMem .indHLinc .A
  | .ld_H_d8 => .loadImm .H
  | .ld_A_indHLinc => .loadMem .A .indHLinc
  | .ld_L_d8 => .loadImm .L
  | .ld_indHLdec_A => .storeMem .indHLdec .A
  | .ld_indHL_d8 => .storeImm
  | .ld_A_indHLdec => .loadMem .A .indHLdec
  | .ld_A_d8 => .loadImm .A
  | .ld_B_B => .loadReg .B .B
  | .ld_B_C => .loadReg .B .C
  | .ld_B_D => .loadReg .B .D
  | .ld_B_E => .loadReg .B .E
  | .ld_B_H => .loadReg .B .H
  | .ld_B_L => .loadReg .B .L
  | .ld_B_indHL => .loadMem .B .indHL
  | .ld_B_A => .loadReg .B .A
  | .ld_C_B => .loadReg .C .B
  | .ld_C_C => .loadReg .C .C
  | .ld_C_D => .loadReg .C .D
  | .ld_C_E => .loadReg .C .E
  | .ld_C_H => .loadReg .C .H
  | .ld_C_L => .loadReg .C .L
  | .ld_C_indHL => .loadMem .C .indHL
  | .ld_C_A => .loadReg .C .A
  | .ld_D_B => .loadReg .D .B
  | .ld_D_C => .loadReg .D .C
  | .ld_D_D => .loadReg .D .D
  | .ld_D_E => .loadReg .D .E
  | .ld_D_H => .loadReg .D .H
  | .ld_D_L => .loadReg .D .L
  | .ld_D_indHL => .loadMem .D .indHL
  | .ld_D_A => .loadReg .D .A
  | .ld_E_B => .loadReg .E .B
  | .ld_E_C => .loadReg .E .C
  | .ld_E_D => .loadReg .E .D
  | .ld_E_E => .loadReg .E .E
  | .ld_E_H => .loadReg .E .H
  | .ld_E_L => .loadReg .E .L
  | .ld_E_indHL => .loadMem .E .indHL
  | .ld_E_A => .loadReg .E .A
  | .ld_H_B => .loadReg .H .B
  | .ld_H_C => .loadReg .H .C
  | .ld_H_D => .loadReg .H .D
  | .ld_H_E => .loadReg .H .E
  | .ld_H_H => .loadReg .H .H
  | .ld_H_L => .loadReg .H .L
  | .ld_H_indHL => .loadMem .H .indHL
  | .ld_H_A => .loadReg .H .A
  | .ld_L_B => .loadReg .L .B
  | .ld_L_C => .loadReg .L .C
  | .ld_L_D => .loadReg .L .D
  | .ld_L_E => .loadReg .L .E
  | .ld_L_H => .loadReg .L .H
  | .ld_L_L => .loadReg .L .L
  | .ld_L_indHL => .loadMem .L .indHL
  | .ld_L_A => .loadReg .L .A
  | .ld_indHL_B => .storeMem .indHL .B
  | .ld_indHL_C => .storeMem .indHL .C
  | .ld_indHL_D => .storeMem .indHL .D
  | .ld_indHL_E => .storeMem .indHL .E
  | .ld_indHL_H => .storeMem .indHL .H
  | .ld_indHL_L => .storeMem .indHL .L
  | .ld_indHL_A => .storeMem .indHL .A
  | .ld_A_B => .loadReg .A .B
  | .ld_A_C => .loadReg .A .C
  | .ld_A_D => .loadReg .A .D
  | .ld_A_E => .loadReg .A .E
  | .ld_A_H => .loadReg .A .H
  | .ld_A_L => .loadReg .A .L
  | .ld_A_indHL => .loadMem .A .indHL
  | .ld_A_A => .loadReg .A .A
  | .ldh_inda8_A => .storeMem .inda8 .A
  | .ld_indC_A => .storeMem .indC .A
  | .ld_inda16_A => .storeMem .inda16 .A
  | .ldh_A_inda8 => .loadMem .A .inda8
  | .ld_A_indC => .loadMem .A .indC
  | .ld_A_inda16 => .loadMem .A .inda16
  | .ld_BC_d16 => .loadWordImm .BC
  | .ld_inda16_SP => .storeSp
  | .ld_DE_d16 => .loadWordImm .DE
  | .ld_HL_d16 => .loadWordImm .HL
  | .ld_SP_d16 => .loadWordImm .SP
  | .pop_BC => .pop .BC
  | .push_BC => .push .BC
  | .pop_DE => .pop .DE
  | .push_DE => .push .DE
  | .pop_HL => .pop .HL
  | .push_HL => .push .HL
  | .pop_AF => .popAf
  | .push_AF => .pushAf
  | .ld_SP_HL => .loadSpHl
  | .jr_e8 => .jumpRel
  | .jr_NZ_e8 => .jumpRelIf .NZ
  | .jr_Z_e8 => .jumpRelIf .Z
  | .jr_NC_e8 => .jumpRelIf .NC
  | .jr_C_e8 => .jumpRelIf .C
  | .ret_NZ => .retIf .NZ
  | .jp_NZ_a16 => .jumpAbsIf .NZ
  | .jp_a16 => .jumpAbs
  | .call_NZ_a16 => .callAbsIf .NZ
  | .ret_Z => .retIf .Z
  | .ret => .ret
  | .jp_Z_a16 => .jumpAbsIf .Z
  | .call_Z_a16 => .callAbsIf .Z
  | .call_a16 => .callAbs
  | .ret_NC => .retIf .NC
  | .jp_NC_a16 => .jumpAbsIf .NC
  | .call_NC_a16 => .callAbsIf .NC
  | .ret_C => .retIf .C
  | .jp_C_a16 => .jumpAbsIf .C
  | .call_C_a16 => .callAbsIf .C
  | .jp_HL => .jumpHl
  | .rlca => .rotAcc .left .wrap
  | .rrca => .rotAcc .right .wrap
  | .rla => .rotAcc .left .through
  | .rra => .rotAcc .right .through
  | .rlc_B => .rot .rlc (.reg .B)
  | .rlc_C => .rot .rlc (.reg .C)
  | .rlc_D => .rot .rlc (.reg .D)
  | .rlc_E => .rot .rlc (.reg .E)
  | .rlc_H => .rot .rlc (.reg .H)
  | .rlc_L => .rot .rlc (.reg .L)
  | .rlc_indHL => .rot .rlc .indHL
  | .rlc_A => .rot .rlc (.reg .A)
  | .rrc_B => .rot .rrc (.reg .B)
  | .rrc_C => .rot .rrc (.reg .C)
  | .rrc_D => .rot .rrc (.reg .D)
  | .rrc_E => .rot .rrc (.reg .E)
  | .rrc_H => .rot .rrc (.reg .H)
  | .rrc_L => .rot .rrc (.reg .L)
  | .rrc_indHL => .rot .rrc .indHL
  | .rrc_A => .rot .rrc (.reg .A)
  | .rl_B => .rot .rl (.reg .B)
  | .rl_C => .rot .rl (.reg .C)
  | .rl_D => .rot .rl (.reg .D)
  | .rl_E => .rot .rl (.reg .E)
  | .rl_H => .rot .rl (.reg .H)
  | .rl_L => .rot .rl (.reg .L)
  | .rl_indHL => .rot .rl .indHL
  | .rl_A => .rot .rl (.reg .A)
  | .rr_B => .rot .rr (.reg .B)
  | .rr_C => .rot .rr (.reg .C)
  | .rr_D => .rot .rr (.reg .D)
  | .rr_E => .rot .rr (.reg .E)
  | .rr_H => .rot .rr (.reg .H)
  | .rr_L => .rot .rr (.reg .L)
  | .rr_indHL => .rot .rr .indHL
  | .rr_A => .rot .rr (.reg .A)
  | .bit_0_B => .bit 0 (.reg .B)
  | .bit_0_C => .bit 0 (.reg .C)
  | .bit_0_D => .bit 0 (.reg .D)
  | .bit_0_E => .bit 0 (.reg .E)
  | .bit_0_H => .bit 0 (.reg .H)
  | .bit_0_L => .bit 0 (.reg .L)
  | .bit_0_indHL => .bit 0 .indHL
  | .bit_0_A => .bit 0 (.reg .A)
  | .bit_1_B => .bit 1 (.reg .B)
  | .bit_1_C => .bit 1 (.reg .C)
  | .bit_1_D => .bit 1 (.reg .D)
  | .bit_1_E => .bit 1 (.reg .E)
  | .bit_1_H => .bit 1 (.reg .H)
  | .bit_1_L => .bit 1 (.reg .L)
  | .bit_1_indHL => .bit 1 .indHL
  | .bit_1_A => .bit 1 (.reg .A)
  | .bit_2_B => .bit 2 (.reg .B)
  | .bit_2_C => .bit 2 (.reg .C)
  | .bit_2_D => .bit 2 (.reg .D)
  | .bit_2_E => .bit 2 (.reg .E)
  | .bit_2_H => .bit 2 (.reg .H)
  | .bit_2_L => .bit 2 (.reg .L)
  | .bit_2_indHL => .bit 2 .indHL
  | .bit_2_A => .bit 2 (.reg .A)
  | .bit_3_B => .bit 3 (.reg .B)
  | .bit_3_C => .bit 3 (.reg .C)
  | .bit_3_D => .bit 3 (.reg .D)
  | .bit_3_E => .bit 3 (.reg .E)
  | .bit_3_H => .bit 3 (.reg .H)
  | .bit_3_L => .bit 3 (.reg .L)
  | .bit_3_indHL => .bit 3 .indHL
  | .bit_3_A => .bit 3 (.reg .A)
  | .bit_4_B => .bit 4 (.reg .B)
  | .bit_4_C => .bit 4 (.reg .C)
  | .bit_4_D => .bit 4 (.reg .D)
  | .bit_4_E => .bit 4 (.reg .E)
  | .bit_4_H => .bit 4 (.reg .H)
  | .bit_4_L => .bit 4 (.reg .L)
  | .bit_4_indHL => .bit 4 .indHL
  | .bit_4_A => .bit 4 (.reg .A)
  | .bit_5_B => .bit 5 (.reg .B)
  | .bit_5_C => .bit 5 (.reg .C)
  | .bit_5_D => .bit 5 (.reg .D)
  | .bit_5_E => .bit 5 (.reg .E)
  | .bit_5_H => .bit 5 (.reg .H)
  | .bit_5_L => .bit 5 (.reg .L)
  | .bit_5_indHL => .bit 5 .indHL
  | .bit_5_A => .bit 5 (.reg .A)
  | .bit_6_B => .bit 6 (.reg .B)
  | .bit_6_C => .bit 6 (.reg .C)
  | .bit_6_D => .bit 6 (.reg .D)
  | .bit_6_E => .bit 6 (.reg .E)
  | .bit_6_H => .bit 6 (.reg .H)
  | .bit_6_L => .bit 6 (.reg .L)
  | .bit_6_indHL => .bit 6 .indHL
  | .bit_6_A => .bit 6 (.reg .A)
  | .bit_7_B => .bit 7 (.reg .B)
  | .bit_7_C => .bit 7 (.reg .C)
  | .bit_7_D => .bit 7 (.reg .D)
  | .bit_7_E => .bit 7 (.reg .E)
  | .bit_7_H => .bit 7 (.reg .H)
  | .bit_7_L => .bit 7 (.reg .L)
  | .bit_7_indHL => .bit 7 .indHL
  | .bit_7_A => .bit 7 (.reg .A)
  | .nop => .nop
  | .halt => .halt
  | .unknown op => .unknown (.base op)
  | .unknownCb op2 => .unknown (.extended op2)

/-- Every instruction does what its operation does. -/
theorem exec_eq_run (i : Instr) (s : State) : exec i s = (formOf i).run s := by
  cases i <;> rfl

/-- The reported cost of an instruction is the one its operation accounts. -/
theorem cyclesOf_eq_cycles (c : CycleTable) (f : Flags) (i : Instr) : cyclesOf c f i = (formOf i).cycles c f := by
  cases i <;> rfl

/-! ## What an instruction can do -/

/-- What the effect of an instruction, its PC and accounting aside, leaves alone; and it keeps the arrays sound. -/
structure State.Effect (s u : State) : Prop where
  fault : u.fault = s.fault
  bootActive : u.bootActive = s.bootActive
  boot : u.boot = s.boot
  rom0 : u.rom0 = s.rom0
  cfg : u.cfg = s.cfg
  clk : u.clk = s.clk
  gpu : u.gpu = s.gpu
  arraysOk : s.arraysOk = true → u.arraysOk = true

theorem State.Effect.trans {s t u : State} (h : s.Effect t) (h' : t.Effect u) : s.Effect u :=
  ⟨h'.fault.trans h.fault, h'.bootActive.trans h.bootActive, h'.boot.trans h.boot, h'.rom0.trans h.rom0,
    h'.cfg.trans h.cfg, h'.clk.trans h.clk, h'.gpu.trans h.gpu, fun x => h'.arraysOk (h.arraysOk x)⟩

theorem State.Effect.rfl' (s : State) : s.Effect s := ⟨rfl, rfl, rfl, rfl, rfl, rfl, rfl, id⟩

theorem State.Effect.setReg (s : State) (x : Reg8) (v : Byte) : s.Effect (s.setReg x v) :=
  ⟨rfl, rfl, rfl, rfl, rfl, rfl, rfl, id⟩

theorem State.Effect.setPair (s : State) (p : Pair) (v : Word) : s.Effect (s.setPair p v) :=
  ⟨rfl, rfl, rfl, rfl, rfl, rfl, rfl, id⟩

theorem State.Effect.setFlags (s : State) (f : Flags) : s.Effect (s.setFlags f) :=
  ⟨rfl, rfl, rfl, rfl, rfl, rfl, rfl, id⟩

theorem State.Effect.setSp (s : State) (v : Word) : s.Effect (s.setSp v) := ⟨rfl, rfl, rfl, rfl, rfl, rfl, rfl, id⟩

theorem State.Effect.setReg16 (s : State) (x : Reg16) (v : Word) : s.Effect (s.setReg16 x v) := by
  cases x <;> exact ⟨rfl, rfl, rfl, rfl, rfl, rfl, rfl, id⟩

theorem State.Effect.post (s : State) (m : MemOperand) (addr : Word) : s.Effect (s.postEffect m addr) := by
  cases m <;> exact ⟨rfl, rfl, rfl, rfl, rfl, rfl, rfl, id⟩

theorem State.Effect.aluWrite (s : State) (op : AluOp) (r : ByteResult) : s.Effect (s.aluWrite op r) := by
  cases op <;> exact ⟨rfl, rfl, rfl, rfl, rfl, rfl, rfl, id⟩

theorem State.Effect.memWrite {s t : State} {a : Word} {v : Byte} (h : s.memWrite a v = .ok t) : s.Effect t :=
  have k := State.memWrite_same h
  ⟨k.fault, k.bootActive, k.boot, k.rom0, k.cfg, k.clk, k.gpu, fun x => State.memWrite_arraysOk x h⟩

theorem State.Effect.writeLoc {s t : State} {x : Loc8} {v : Byte} (h : s.writeLoc8 x v = .ok t) : s.Effect t := by
  rcases State.writeLoc8_ok h with ⟨r, rfl, rfl⟩ | ⟨rfl, h⟩
  · exact State.Effect.setReg _ _ _
  · exact State.Effect.memWrite h

theorem State.Effect.push {s t : State} {v : Word} (h : s.push16 v = .ok t) : s.Effect t := by
  obtain ⟨u, w, h1, h2, rfl⟩ := State.push16_ok h
  exact ((State.Effect.memWrite h1).trans (State.Effect.memWrite h2)).trans (State.Effect.setSp _ _)

/-- Everything a completed instruction does: an effect on registers, flags, SP, run state and RAM arrays, then PC and the accounting
of its own cost. Only HALT changes the run state. -/
theorem Form.run_next {s t : State} {g : Form} (h : g.run s = .next t) :
    ∃ u pc, s.Effect u ∧ t = (u.setPc pc).account (g.cycles s.cfg.cyc s.flags) ∧ (u.run = s.run ∨ (g = .halt ∧ u.run = .halted)) := by
  have mw : ∀ {a b : State} {x v}, a.memWrite x v = .ok b → b.run = a.run := fun h => (State.memWrite_same h).run
  cases g with
  | alu op x =>
    obtain ⟨v, hv, rfl⟩ := aluInstr_next h
    exact ⟨_, _, State.Effect.aluWrite _ _ _, rfl, .inl (by cases op <;> rfl)⟩
  | inc8 x =>
    obtain ⟨v, u, hv, hu, rfl⟩ := incInstr_next h
    refine ⟨_, _, (State.Effect.writeLoc hu).trans (State.Effect.setFlags _ _), rfl, .inl ?_⟩
    rcases State.writeLoc8_ok hu with ⟨r, rfl, rfl⟩ | ⟨rfl, h'⟩
    · rfl
    · exact (mw h' : u.run = s.run)
  | dec8 x =>
    obtain ⟨v, u, hv, hu, rfl⟩ := decInstr_next h
    refine ⟨_, _, (State.Effect.writeLoc hu).trans (State.Effect.setFlags _ _), rfl, .inl ?_⟩
    rcases State.writeLoc8_ok hu with ⟨r, rfl, rfl⟩ | ⟨rfl, h'⟩
    · rfl
    · exact (mw h' : u.run = s.run)
  | inc16 x => cases inc16Instr_next h; exact ⟨_, _, State.Effect.setReg16 _ _ _, rfl, .inl (by cases x <;> rfl)⟩
  | dec16 x => cases dec16Instr_next h; exact ⟨_, _, State.Effect.setReg16 _ _ _, rfl, .inl (by cases x <;> rfl)⟩
  | addHl x => cases addHlInstr_next h; exact ⟨_, _, (State.Effect.setPair s .HL (s.pair .HL + s.reg16 x)).trans (State.Effect.setFlags _ (addWordFlags (s.pair .HL) (s.reg16 x) s.flags)), rfl, .inl rfl⟩
  | loadReg a b => cases loadReg_next h; exact ⟨_, _, State.Effect.setReg _ _ _, rfl, .inl rfl⟩
  | loadImm a => obtain ⟨v, hv, rfl⟩ := loadImm_next h; exact ⟨_, _, State.Effect.setReg _ _ _, rfl, .inl rfl⟩
  | loadMem a m => obtain ⟨v, w, hv, hw, rfl⟩ := loadMem_next h; exact ⟨_, _, (State.Effect.setReg _ _ _).trans (State.Effect.post _ _ _), rfl, .inl (by cases m <;> rfl)⟩
  | storeMem m r => obtain ⟨v, w, hv, hw, rfl⟩ := storeMem_next h; exact ⟨_, _, (State.Effect.memWrite hw).trans (State.Effect.post _ _ _), rfl, .inl ((by cases m <;> rfl : (w.postEffect m v).run = w.run).trans (mw hw))⟩
  | storeImm => obtain ⟨v, u, hv, hu, rfl⟩ := storeImm_next h; exact ⟨_, _, State.Effect.memWrite hu, rfl, .inl (mw hu)⟩
  | loadWordImm x => obtain ⟨v, hv, rfl⟩ := loadWordImm_next h; exact ⟨_, _, State.Effect.setReg16 _ _ _, rfl, .inl (by cases x <;> rfl)⟩
  | storeSp =>
    obtain ⟨v, u, hv, hu, rfl⟩ := storeSp_next h
    obtain ⟨w, h1, h2⟩ := State.memWrite2_ok hu
    exact ⟨_, _, (State.Effect.memWrite h1).trans (State.Effect.memWrite h2), rfl, .inl ((mw h2).trans (mw h1))⟩
  | loadSpHl => cases h; exact ⟨_, _, State.Effect.setSp _ _, rfl, .inl rfl⟩
  | push p =>
    obtain ⟨u, hu, rfl⟩ := pushWord_next h
    obtain ⟨a, b, h1, h2, rfl⟩ := State.push16_ok hu
    exact ⟨_, _, State.Effect.push hu, rfl, .inl ((mw h2).trans (mw h1))⟩
  | pushAf =>
    obtain ⟨u, hu, rfl⟩ := pushWord_next h
    obtain ⟨a, b, h1, h2, rfl⟩ := State.push16_ok hu
    exact ⟨_, _, State.Effect.push hu, rfl, .inl ((mw h2).trans (mw h1))⟩
  | pop p => obtain ⟨v, hv, rfl⟩ := popWord_next (write := fun t v => t.setPair p v) h; exact ⟨_, _, (State.Effect.setSp s (s.sp + 2)).trans (State.Effect.setPair _ p v), rfl, .inl rfl⟩
  | popAf => obtain ⟨v, hv, rfl⟩ := popWord_next h; exact ⟨_, _, ((State.Effect.setSp s (s.sp + 2)).trans (State.Effect.setReg _ .A (highByte v))).trans (State.Effect.setFlags _ (Flags.ofByte (lowByte v))), rfl, .inl rfl⟩
  | jumpAbs => obtain ⟨v, hv, rfl⟩ := jumpAbs_next h; exact ⟨_, _, State.Effect.rfl' s, rfl, .inl rfl⟩
  | jumpAbsIf cc =>
    rcases jumpAbsIf_next h with ⟨hc, h⟩ | ⟨hc, rfl⟩
    · obtain ⟨v, hv, rfl⟩ := jumpAbs_next h; exact ⟨_, v, State.Effect.rfl' s, by simp [Form.cycles, condCost, hc]; rfl, .inl rfl⟩
    · exact ⟨_, _, State.Effect.rfl' s, by simp [Form.cycles, condCost, hc]; rfl, .inl rfl⟩
  | jumpHl => cases h; exact ⟨_, _, State.Effect.rfl' s, rfl, .inl rfl⟩
  | jumpRel => obtain ⟨v, hv, rfl⟩ := jumpRel_next h; exact ⟨_, _, State.Effect.rfl' s, rfl, .inl rfl⟩
  | jumpRelIf cc =>
    rcases jumpRelIf_next h with ⟨hc, h⟩ | ⟨hc, rfl⟩
    · obtain ⟨v, hv, rfl⟩ := jumpRel_next h; exact ⟨_, relTarget s.pc v, State.Effect.rfl' s, by simp [Form.cycles, condCost, hc]; rfl, .inl rfl⟩
    · exact ⟨_, _, State.Effect.rfl' s, by simp [Form.cycles, condCost, hc]; rfl, .inl rfl⟩
  | callAbs =>
    obtain ⟨v, u, hv, hu, rfl⟩ := callAbs_next h
    obtain ⟨a, b, h1, h2, rfl⟩ := State.push16_ok hu
    refine ⟨_, v, State.Effect.push hu, ?_, .inl ((mw h2).trans (mw h1))⟩
    rfl
  | callAbsIf cc =>
    rcases callAbsIf_next h with ⟨hc, h⟩ | ⟨hc, rfl⟩
    · obtain ⟨v, u, hv, hu, rfl⟩ := callAbs_next h
      obtain ⟨a, b, h1, h2, rfl⟩ := State.push16_ok hu
      refine ⟨_, v, State.Effect.push hu, ?_, .inl ((mw h2).trans (mw h1))⟩
      simp [Form.cycles, condCost, hc]; rfl
    · exact ⟨_, _, State.Effect.rfl' s, by simp [Form.cycles, condCost, hc]; rfl, .inl rfl⟩
  | ret => obtain ⟨v, hv, rfl⟩ := returnTo_next h; exact ⟨_, v, State.Effect.setSp s (s.sp + 2), rfl, .inl rfl⟩
  | retIf cc =>
    rcases returnIf_next h with ⟨hc, h⟩ | ⟨hc, rfl⟩
    · obtain ⟨v, hv, rfl⟩ := returnTo_next h; exact ⟨_, v, State.Effect.setSp s (s.sp + 2), by simp [Form.cycles, condCost, hc]; rfl, .inl rfl⟩
    · exact ⟨_, _, State.Effect.rfl' s, by simp [Form.cycles, condCost, hc]; rfl, .inl rfl⟩
  | rotAcc d w => cases rotAcc_next h; exact ⟨_, _, (State.Effect.setReg s .A (rotate (s.reg .A) d w s.flags.c).1).trans (State.Effect.setFlags _ ⟨false, false, false, (rotate (s.reg .A) d w s.flags.c).2⟩), rfl, .inl rfl⟩
  | rot k x =>
    obtain ⟨v, u, hv, hu, rfl⟩ := rotInstr_next h
    refine ⟨_, _, (State.Effect.writeLoc hu).trans (State.Effect.setFlags _ _), rfl, .inl ?_⟩
    rcases State.writeLoc8_ok hu with ⟨r, rfl, rfl⟩ | ⟨rfl, h'⟩
    · rfl
    · exact (mw h' : u.run = s.run)
  | bit b x => obtain ⟨v, hv, rfl⟩ := bitInstr_next h; exact ⟨_, _, State.Effect.setFlags _ _, rfl, .inl rfl⟩
  | nop => cases h; exact ⟨_, _, State.Effect.rfl' s, rfl, .inl rfl⟩
  | halt => cases h; exact ⟨s.setRun .halted, _, ⟨rfl, rfl, rfl, rfl, rfl, rfl, rfl, id⟩, rfl, .inr ⟨rfl, rfl⟩⟩
  | unknown o => cases h

/-- The faults that an access raises name its address, which selects no region. -/
theorem State.memRead2_error {s : State} {a : Word} {f : Fault} (h : s.memRead2 a = .error f) :
    ∃ b, f = .unmappedAccess b ∧ s.region b = none := by
  unfold State.memRead2 at h
  split at h
  · rename_i g hg
    obtain ⟨rfl, hr⟩ := State.memRead_error hg
    exact ⟨a, by simpa using h.symm, hr⟩
  · split at h
    · rename_i g hg
      obtain ⟨rfl, hr⟩ := State.memRead_error hg
      exact ⟨a + 1, by simpa using h.symm, hr⟩
    · cases h

theorem State.region_memWrite {s t : State} {a : Word} {v : Byte} (h : s.memWrite a v = .ok t) (b : Word) :
    t.region b = s.region b :=
  State.region_congr (State.memWrite_same h).bootActive (by rw [(State.memWrite_same h).cfg]) b

theorem State.memWrite2_error {s : State} {a v : Word} {f : Fault} (h : s.memWrite2 a v = .error f) :
    ∃ b, f = .unmappedAccess b ∧ s.region b = none := by
  unfold State.memWrite2 at h
  split at h
  · rename_i g hg
    obtain ⟨rfl, hr⟩ := State.memWrite_error hg
    exact ⟨a, by simpa using h.symm, hr⟩
  · rename_i t ht
    obtain ⟨rfl, hr⟩ := State.memWrite_error h
    exact ⟨_, rfl, by rwa [State.region_memWrite ht] at hr⟩

theorem State.push16_error {s : State} {v : Word} {f : Fault} (h : s.push16 v = .error f) :
    ∃ b, f = .unmappedAccess b ∧ s.region b = none := by
  unfold State.push16 at h
  split at h
  · rename_i g hg
    obtain ⟨rfl, hr⟩ := State.memWrite_error hg
    exact ⟨_, by simpa using h.symm, hr⟩
  · rename_i t ht
    split at h
    · rename_i g hg
      obtain ⟨rfl, hr⟩ := State.memWrite_error hg
      exact ⟨_, by simpa using h.symm, by rwa [State.region_memWrite ht] at hr⟩
    · cases h

theorem State.pop16_error {s : State} {f : Fault} (h : s.pop16 = .error f) :
    ∃ b, f = .unmappedAccess b ∧ s.region b = none := by
  unfold State.pop16 at h
  split at h
  · rename_i g hg
    cases h
    exact State.memRead2_error hg
  · cases h

theorem State.memRead_error' {s : State} {a : Word} {f : Fault} (h : s.memRead a = .error f) :
    ∃ b, f = .unmappedAccess b ∧ s.region b = none :=
  ⟨a, State.memRead_error h⟩

theorem State.memWrite_error' {s : State} {a : Word} {v : Byte} {f : Fault} (h : s.memWrite a v = .error f) :
    ∃ b, f = .unmappedAccess b ∧ s.region b = none :=
  ⟨a, State.memWrite_error h⟩

theorem State.effAddr_error {s : State} {m : MemOperand} {f : Fault} (h : s.effAddr m = .error f) :
    ∃ b, f = .unmappedAccess b ∧ s.region b = none := by
  cases m with
  | inda8 =>
    unfold State.effAddr at h
    dsimp only at h
    split at h
    · cases h
      exact State.memRead_error' ‹_›
    · cases h
  | inda16 => exact State.memRead2_error h
  | indBC => cases h
  | indDE => cases h
  | indHL => cases h
  | indHLinc => cases h
  | indHLdec => cases h
  | indC => cases h

theorem State.readLoc8_error {s : State} {x : Loc8} {f : Fault} (h : s.readLoc8 x = .error f) :
    ∃ b, f = .unmappedAccess b ∧ s.region b = none := by
  cases x with
  | reg r => cases h
  | indHL => exact State.memRead_error' h

theorem State.writeLoc8_error {s : State} {x : Loc8} {v : Byte} {f : Fault} (h : s.writeLoc8 x v = .error f) :
    ∃ b, f = .unmappedAccess b ∧ s.region b = none := by
  cases x with
  | reg r => cases h
  | indHL => exact State.memWrite_error' h

theorem State.readSrc8_error {s : State} {x : Src8} {f : Fault} (h : s.readSrc8 x = .error f) :
    ∃ b, f = .unmappedAccess b ∧ s.region b = none := by
  cases x with
  | reg r => cases h
  | indHL => exact State.memRead_error' h
  | d8 => exact State.memRead_error' h

/-- Everything that stops an instruction: an access to an address that selects no region, or UNKNOWN. None refuses. -/
theorem Form.run_stops {s : State} {g : Form} :
    (∃ t, g.run s = .next t) ∨ (∃ b, g.run s = .fault (.unmappedAccess b) ∧ s.region b = none) ∨
      (∃ o, g = .unknown o ∧ g.run s = .fault (.unknownOpcode o s.pc)) := by
  have key : ∀ {α : Type} {x : Except Fault α} {k : α → Result},
      (∀ f, x = .error f → ∃ b, f = .unmappedAccess b ∧ s.region b = none) →
      (∀ v, x = .ok v → (∃ t, k v = .next t) ∨ (∃ b, k v = .fault (.unmappedAccess b) ∧ s.region b = none)) →
      (∃ t, onOk x k = .next t) ∨ (∃ b, onOk x k = .fault (.unmappedAccess b) ∧ s.region b = none) := by
    intro α x k he hk
    cases x with
    | ok v => exact hk v rfl
    | error f =>
      obtain ⟨b, rfl, hb⟩ := he f rfl
      exact .inr ⟨b, rfl, hb⟩
  have lift : (∃ t, g.run s = .next t) ∨ (∃ b, g.run s = .fault (.unmappedAccess b) ∧ s.region b = none) →
      (∃ t, g.run s = .next t) ∨ (∃ b, g.run s = .fault (.unmappedAccess b) ∧ s.region b = none) ∨
        (∃ o, g = .unknown o ∧ g.run s = .fault (.unknownOpcode o s.pc)) :=
    fun h => h.elim .inl fun h => .inr (.inl h)
  have hj : (∃ t, Machine.jumpAbs s = .next t) ∨ (∃ b, Machine.jumpAbs s = .fault (.unmappedAccess b) ∧ s.region b = none) :=
    key (fun _ => State.memRead2_error) fun _ _ => .inl ⟨_, rfl⟩
  have hr : (∃ t, Machine.jumpRel s = .next t) ∨ (∃ b, Machine.jumpRel s = .fault (.unmappedAccess b) ∧ s.region b = none) :=
    key (fun _ => State.memRead_error') fun _ _ => .inl ⟨_, rfl⟩
  have hc : (∃ t, Machine.callAbs s = .next t) ∨ (∃ b, Machine.callAbs s = .fault (.unmappedAccess b) ∧ s.region b = none) :=
    key (fun _ => State.memRead2_error) fun _ _ => key (fun _ => State.push16_error) fun _ _ => .inl ⟨_, rfl⟩
  have hp : ∀ n, (∃ t, returnTo n s = .next t) ∨ (∃ b, returnTo n s = .fault (.unmappedAccess b) ∧ s.region b = none) :=
    fun n => key (fun _ => State.pop16_error) fun _ _ => .inl ⟨_, rfl⟩
  cases g with
  | alu op x => exact lift (key (fun _ => State.readSrc8_error) fun _ _ => .inl ⟨_, rfl⟩)
  | inc8 x =>
    exact lift (key (fun _ => State.readLoc8_error) fun _ _ => key (fun _ => State.writeLoc8_error) fun _ _ => .inl ⟨_, rfl⟩)
  | dec8 x =>
    exact lift (key (fun _ => State.readLoc8_error) fun _ _ => key (fun _ => State.writeLoc8_error) fun _ _ => .inl ⟨_, rfl⟩)
  | inc16 x => exact .inl ⟨_, rfl⟩
  | dec16 x => exact .inl ⟨_, rfl⟩
  | addHl x => exact .inl ⟨_, rfl⟩
  | loadReg rd rs => exact .inl ⟨_, rfl⟩
  | loadImm rd => exact lift (key (fun _ => State.memRead_error') fun _ _ => .inl ⟨_, rfl⟩)
  | loadMem rd m =>
    exact lift (key (fun _ => State.effAddr_error) fun _ _ => key (fun _ => State.memRead_error') fun _ _ => .inl ⟨_, rfl⟩)
  | storeMem m rs =>
    exact lift (key (fun _ => State.effAddr_error) fun _ _ => key (fun _ => State.memWrite_error') fun _ _ => .inl ⟨_, rfl⟩)
  | storeImm =>
    exact lift (key (fun _ => State.memRead_error') fun _ _ => key (fun _ => State.memWrite_error') fun _ _ => .inl ⟨_, rfl⟩)
  | loadWordImm x => exact lift (key (fun _ => State.memRead2_error) fun _ _ => .inl ⟨_, rfl⟩)
  | storeSp =>
    exact lift (key (fun _ => State.memRead2_error) fun _ _ => key (fun _ => State.memWrite2_error) fun _ _ => .inl ⟨_, rfl⟩)
  | loadSpHl => exact .inl ⟨_, rfl⟩
  | push p => exact lift (key (fun _ => State.push16_error) fun _ _ => .inl ⟨_, rfl⟩)
  | pushAf => exact lift (key (fun _ => State.push16_error) fun _ _ => .inl ⟨_, rfl⟩)
  | pop p => exact lift (key (fun _ => State.pop16_error) fun _ _ => .inl ⟨_, rfl⟩)
  | popAf => exact lift (key (fun _ => State.pop16_error) fun _ _ => .inl ⟨_, rfl⟩)
  | jumpAbs => exact lift hj
  | jumpAbsIf cc =>
    refine lift ?_
    cases hcc : s.flags.holds cc with
    | true => simpa only [Form.run, Machine.jumpAbsIf, hcc, if_true] using hj
    | false => exact .inl ⟨_, if_neg (by simp [hcc])⟩
  | jumpHl => exact .inl ⟨_, rfl⟩
  | jumpRel => exact lift hr
  | jumpRelIf cc =>
    refine lift ?_
    cases hcc : s.flags.holds cc with
    | true => simpa only [Form.run, Machine.jumpRelIf, hcc, if_true] using hr
    | false => exact .inl ⟨_, if_neg (by simp [hcc])⟩
  | callAbs => exact lift hc
  | callAbsIf cc =>
    refine lift ?_
    cases hcc : s.flags.holds cc with
    | true => simpa only [Form.run, Machine.callAbsIf, hcc, if_true] using hc
    | false => exact .inl ⟨_, if_neg (by simp [hcc])⟩
  | ret => exact lift (hp _)
  | retIf cc =>
    refine lift ?_
    cases hcc : s.flags.holds cc with
    | true => simpa only [Form.run, Machine.returnIf, hcc, if_true] using hp _
    | false => exact .inl ⟨_, if_neg (by simp [hcc])⟩
  | rotAcc dir variant => exact .inl ⟨_, rfl⟩
  | rot k x =>
    exact lift (key (fun _ => State.readLoc8_error) fun _ _ => key (fun _ => State.writeLoc8_error) fun _ _ => .inl ⟨_, rfl⟩)
  | bit b x => exact lift (key (fun _ => State.readLoc8_error) fun _ _ => .inl ⟨_, rfl⟩)
  | nop => exact .inl ⟨_, rfl⟩
  | halt => exact .inl ⟨_, rfl⟩
  | unknown o => exact .inr (.inr ⟨o, rfl, rfl⟩)

/-- `Form.run_next`, of an instruction. -/
theorem exec_next {s t : State} {i : Instr} (h : exec i s = .next t) :
    ∃ u pc, s.Effect u ∧ t = (u.setPc pc).account (cyclesOf s.cfg.cyc s.flags i) ∧
      (u.run = s.run ∨ (formOf i = .halt ∧ u.run = .halted)) := by
  rw [exec_eq_run] at h
  rw [cyclesOf_eq_cycles]
  exact Form.run_next h

/-- `Form.run_stops`, of an instruction. -/
theorem exec_stops (i : Instr) (s : State) :
    (∃ t, exec i s = .next t) ∨ (∃ b, exec i s = .fault (.unmappedAccess b) ∧ s.region b = none) ∨
      (∃ o, formOf i = .unknown o ∧ exec i s = .fault (.unknownOpcode o s.pc)) := by
  rw [exec_eq_run]
  exact Form.run_stops

end Sys2Proof.Machine
end

