-- ==== Sys2Proof/Laws/Graphics.lean ====
section
/-! SUPPORT. The graphics timing unit: its soundness as a proposition, and `Advance` below the threshold and at it. -/

namespace Sys2Proof.Machine

theorem Gpu.ok_iff (g : Gpu) :
    g.ok = true ↔ g.ctr < g.mode.threshold ∧
      (g.mode = .vblank → 144 ≤ g.line ∧ g.line ≤ 153) ∧ (g.mode ≠ .vblank → g.line < 144) := by
  obtain ⟨m, c, l⟩ := g
  unfold Gpu.ok
  rw [Bool.and_eq_true, decide_eq_true_eq]
  refine and_congr_right fun _ => ?_
  cases m <;> simp [lineVblank, lineLast]

theorem Gpu.advance_below {g : Gpu} {n : Nat} (h : g.ctr + n < g.mode.threshold) :
    g.advance n = { g with ctr := g.ctr + n } :=
  if_pos h

theorem Gpu.advance_oamScan {g : Gpu} {n : Nat} (hm : g.mode = .oamScan) (h : 80 ≤ g.ctr + n) :
    g.advance n = ⟨.vramScan, 0, g.line⟩ := by
  obtain ⟨m, c, l⟩ := g
  cases hm
  exact if_neg (Nat.not_lt.mpr h)

theorem Gpu.advance_vramScan {g : Gpu} {n : Nat} (hm : g.mode = .vramScan) (h : 172 ≤ g.ctr + n) :
    g.advance n = ⟨.hblank, 0, g.line⟩ := by
  obtain ⟨m, c, l⟩ := g
  cases hm
  exact if_neg (Nat.not_lt.mpr h)

theorem Gpu.advance_hblank {g : Gpu} {n : Nat} (hm : g.mode = .hblank) (h : 204 ≤ g.ctr + n) :
    g.advance n = ⟨if g.line + 1 = 144 then .vblank else .oamScan, 0, g.line + 1⟩ := by
  obtain ⟨m, c, l⟩ := g
  cases hm
  exact if_neg (Nat.not_lt.mpr h)

theorem Gpu.advance_vblank {g : Gpu} {n : Nat} (hm : g.mode = .vblank) (h : 456 ≤ g.ctr + n) :
    g.advance n = if 153 < g.line + 1 then ⟨.oamScan, 0, 0⟩ else ⟨.vblank, 0, g.line + 1⟩ := by
  obtain ⟨m, c, l⟩ := g
  cases hm
  exact if_neg (Nat.not_lt.mpr h)

end Sys2Proof.Machine
end

