-- ==== Sys2Proof/Laws/PerInstr.lean ====
section
/-! SUPPORT. Facts about every instruction as syntax, one lemma per constructor. -/

namespace Sys2Proof.Laws

/-- Decoding a descriptor's opcode byte(s) gives the descriptor back, whatever bytes follow. -/
def DecodeEncode.Statement (i : Instr) : Prop :=
  i.wf = true → ∀ rest, decodeOp (encodeOp i ++ rest) = .ok (i, rest)

theorem decodeBase_unknown : ∀ op ∈ unknownBase, op ≠ extendedByte ∧ decodeBase op = .unknown op := by decide

theorem decodeExtended_unknown {op2 : Byte} (h : isUnknownExtended op2 = true) : decodeExtended op2 = .unknownCb op2 := by
  have hlt := op2.isLt
  simp only [isUnknownExtended, Bool.or_eq_true, Bool.and_eq_true, decide_eq_true_eq] at h
  rcases h with ⟨h1, h2⟩ | h
  · have hx : fieldX op2 = 0 := by simp only [fieldX]; omega
    obtain ⟨k, hk⟩ : ∃ k, fieldY op2 = k + 4 := ⟨fieldY op2 - 4, by simp only [fieldY]; omega⟩
    simp only [decodeExtended, hx, hk, rotOfCode]
  · obtain ⟨k, hk⟩ : ∃ k, fieldX op2 = k + 2 := ⟨fieldX op2 - 2, by simp only [fieldX]; omega⟩
    simp only [decodeExtended, hk]

theorem DecodeEncode.unknown (op : Byte) : DecodeEncode.Statement (.unknown op) := by
  intro h rest
  obtain ⟨hne, hd⟩ := decodeBase_unknown op (by simpa [Instr.wf] using h)
  simp [encodeOp, decodeOp, hne, hd]

theorem DecodeEncode.unknownCb (op2 : Byte) : DecodeEncode.Statement (.unknownCb op2) := by
  intro h rest
  simp [encodeOp, decodeOp, extendedByte, decodeExtended_unknown h]

theorem DecodeEncode.nop : DecodeEncode.Statement .nop := fun _ _ => rfl
theorem DecodeEncode.ld_BC_d16 : DecodeEncode.Statement .ld_BC_d16 := fun _ _ => rfl
theorem DecodeEncode.ld_indBC_A : DecodeEncode.Statement .ld_indBC_A := fun _ _ => rfl
theorem DecodeEncode.inc_BC : DecodeEncode.Statement .inc_BC := fun _ _ => rfl
theorem DecodeEncode.inc_B : DecodeEncode.Statement .inc_B := fun _ _ => rfl
theorem DecodeEncode.dec_B : DecodeEncode.Statement .dec_B := fun _ _ => rfl
theorem DecodeEncode.ld_B_d8 : DecodeEncode.Statement .ld_B_d8 := fun _ _ => rfl
theorem DecodeEncode.rlca : DecodeEncode.Statement .rlca := fun _ _ => rfl
theorem DecodeEncode.ld_inda16_SP : DecodeEncode.Statement .ld_inda16_SP := fun _ _ => rfl
theorem DecodeEncode.add_HL_BC : DecodeEncode.Statement .add_HL_BC := fun _ _ => rfl
theorem DecodeEncode.ld_A_indBC : DecodeEncode.Statement .ld_A_indBC := fun _ _ => rfl
theorem DecodeEncode.dec_BC : DecodeEncode.Statement .dec_BC := fun _ _ => rfl
theorem DecodeEncode.inc_C : DecodeEncode.Statement .inc_C := fun _ _ => rfl
theorem DecodeEncode.dec_C : DecodeEncode.Statement .dec_C := fun _ _ => rfl
theorem DecodeEncode.ld_C_d8 : DecodeEncode.Statement .ld_C_d8 := fun _ _ => rfl
theorem DecodeEncode.rrca : DecodeEncode.Statement .rrca := fun _ _ => rfl
theorem DecodeEncode.ld_DE_d16 : DecodeEncode.Statement .ld_DE_d16 := fun _ _ => rfl
theorem DecodeEncode.ld_indDE_A : DecodeEncode.Statement .ld_indDE_A := fun _ _ => rfl
theorem DecodeEncode.inc_DE : DecodeEncode.Statement .inc_DE := fun _ _ => rfl
theorem DecodeEncode.inc_D : DecodeEncode.Statement .inc_D := fun _ _ => rfl
theorem DecodeEncode.dec_D : DecodeEncode.Statement .dec_D := fun _ _ => rfl
theorem DecodeEncode.ld_D_d8 : DecodeEncode.Statement .ld_D_d8 := fun _ _ => rfl
theorem DecodeEncode.rla : DecodeEncode.Statement .rla := fun _ _ => rfl
theorem DecodeEncode.jr_e8 : DecodeEncode.Statement .jr_e8 := fun _ _ => rfl
theorem DecodeEncode.add_HL_DE : DecodeEncode.Statement .add_HL_DE := fun _ _ => rfl
theorem DecodeEncode.ld_A_indDE : DecodeEncode.Statement .ld_A_indDE := fun _ _ => rfl
theorem DecodeEncode.dec_DE : DecodeEncode.Statement .dec_DE := fun _ _ => rfl
theorem DecodeEncode.inc_E : DecodeEncode.Statement .inc_E := fun _ _ => rfl
theorem DecodeEncode.dec_E : DecodeEncode.Statement .dec_E := fun _ _ => rfl
theorem DecodeEncode.ld_E_d8 : DecodeEncode.Statement .ld_E_d8 := fun _ _ => rfl
theorem DecodeEncode.rra : DecodeEncode.Statement .rra := fun _ _ => rfl
theorem DecodeEncode.jr_NZ_e8 : DecodeEncode.Statement .jr_NZ_e8 := fun _ _ => rfl
theorem DecodeEncode.ld_HL_d16 : DecodeEncode.Statement .ld_HL_d16 := fun _ _ => rfl
theorem DecodeEncode.ld_indHLinc_A : DecodeEncode.Statement .ld_indHLinc_A := fun _ _ => rfl
theorem DecodeEncode.inc_HL : DecodeEncode.Statement .inc_HL := fun _ _ => rfl
theorem DecodeEncode.inc_H : DecodeEncode.Statement .inc_H := fun _ _ => rfl
theorem DecodeEncode.dec_H : DecodeEncode.Statement .dec_H := fun _ _ => rfl
theorem DecodeEncode.ld_H_d8 : DecodeEncode.Statement .ld_H_d8 := fun _ _ => rfl
theorem DecodeEncode.jr_Z_e8 : DecodeEncode.Statement .jr_Z_e8 := fun _ _ => rfl
theorem DecodeEncode.add_HL_HL : DecodeEncode.Statement .add_HL_HL := fun _ _ => rfl
theorem DecodeEncode.ld_A_indHLinc : DecodeEncode.Statement .ld_A_indHLinc := fun _ _ => rfl
theorem DecodeEncode.dec_HL : DecodeEncode.Statement .dec_HL := fun _ _ => rfl
theorem DecodeEncode.inc_L : DecodeEncode.Statement .inc_L := fun _ _ => rfl
theorem DecodeEncode.dec_L : DecodeEncode.Statement .dec_L := fun _ _ => rfl
theorem DecodeEncode.ld_L_d8 : DecodeEncode.Statement .ld_L_d8 := fun _ _ => rfl
theorem DecodeEncode.jr_NC_e8 : DecodeEncode.Statement .jr_NC_e8 := fun _ _ => rfl
theorem DecodeEncode.ld_SP_d16 : DecodeEncode.Statement .ld_SP_d16 := fun _ _ => rfl
theorem DecodeEncode.ld_indHLdec_A : DecodeEncode.Statement .ld_indHLdec_A := fun _ _ => rfl
theorem DecodeEncode.inc_SP : DecodeEncode.Statement .inc_SP := fun _ _ => rfl
theorem DecodeEncode.inc_indHL : DecodeEncode.Statement .inc_indHL := fun _ _ => rfl
theorem DecodeEncode.dec_indHL : DecodeEncode.Statement .dec_indHL := fun _ _ => rfl
theorem DecodeEncode.ld_indHL_d8 : DecodeEncode.Statement .ld_indHL_d8 := fun _ _ => rfl
theorem DecodeEncode.jr_C_e8 : DecodeEncode.Statement .jr_C_e8 := fun _ _ => rfl
theorem DecodeEncode.add_HL_SP : DecodeEncode.Statement .add_HL_SP := fun _ _ => rfl
theorem DecodeEncode.ld_A_indHLdec : DecodeEncode.Statement .ld_A_indHLdec := fun _ _ => rfl
theorem DecodeEncode.dec_SP : DecodeEncode.Statement .dec_SP := fun _ _ => rfl
theorem DecodeEncode.inc_A : DecodeEncode.Statement .inc_A := fun _ _ => rfl
theorem DecodeEncode.dec_A : DecodeEncode.Statement .dec_A := fun _ _ => rfl
theorem DecodeEncode.ld_A_d8 : DecodeEncode.Statement .ld_A_d8 := fun _ _ => rfl
theorem DecodeEncode.ld_B_B : DecodeEncode.Statement .ld_B_B := fun _ _ => rfl
theorem DecodeEncode.ld_B_C : DecodeEncode.Statement .ld_B_C := fun _ _ => rfl
theorem DecodeEncode.ld_B_D : DecodeEncode.Statement .ld_B_D := fun _ _ => rfl
theorem DecodeEncode.ld_B_E : DecodeEncode.Statement .ld_B_E := fun _ _ => rfl
theorem DecodeEncode.ld_B_H : DecodeEncode.Statement .ld_B_H := fun _ _ => rfl
theorem DecodeEncode.ld_B_L : DecodeEncode.Statement .ld_B_L := fun _ _ => rfl
theorem DecodeEncode.ld_B_indHL : DecodeEncode.Statement .ld_B_indHL := fun _ _ => rfl
theorem DecodeEncode.ld_B_A : DecodeEncode.Statement .ld_B_A := fun _ _ => rfl
theorem DecodeEncode.ld_C_B : DecodeEncode.Statement .ld_C_B := fun _ _ => rfl
theorem DecodeEncode.ld_C_C : DecodeEncode.Statement .ld_C_C := fun _ _ => rfl
theorem DecodeEncode.ld_C_D : DecodeEncode.Statement .ld_C_D := fun _ _ => rfl
theorem DecodeEncode.ld_C_E : DecodeEncode.Statement .ld_C_E := fun _ _ => rfl
theorem DecodeEncode.ld_C_H : DecodeEncode.Statement .ld_C_H := fun _ _ => rfl
theorem DecodeEncode.ld_C_L : DecodeEncode.Statement .ld_C_L := fun _ _ => rfl
theorem DecodeEncode.ld_C_indHL : DecodeEncode.Statement .ld_C_indHL := fun _ _ => rfl
theorem DecodeEncode.ld_C_A : DecodeEncode.Statement .ld_C_A := fun _ _ => rfl
theorem DecodeEncode.ld_D_B : DecodeEncode.Statement .ld_D_B := fun _ _ => rfl
theorem DecodeEncode.ld_D_C : DecodeEncode.Statement .ld_D_C := fun _ _ => rfl
theorem DecodeEncode.ld_D_D : DecodeEncode.Statement .ld_D_D := fun _ _ => rfl
theorem DecodeEncode.ld_D_E : DecodeEncode.Statement .ld_D_E := fun _ _ => rfl
theorem DecodeEncode.ld_D_H : DecodeEncode.Statement .ld_D_H := fun _ _ => rfl
theorem DecodeEncode.ld_D_L : DecodeEncode.Statement .ld_D_L := fun _ _ => rfl
theorem DecodeEncode.ld_D_indHL : DecodeEncode.Statement .ld_D_indHL := fun _ _ => rfl
theorem DecodeEncode.ld_D_A : DecodeEncode.Statement .ld_D_A := fun _ _ => rfl
theorem DecodeEncode.ld_E_B : DecodeEncode.Statement .ld_E_B := fun _ _ => rfl
theorem DecodeEncode.ld_E_C : DecodeEncode.Statement .ld_E_C := fun _ _ => rfl
theorem DecodeEncode.ld_E_D : DecodeEncode.Statement .ld_E_D := fun _ _ => rfl
theorem DecodeEncode.ld_E_E : DecodeEncode.Statement .ld_E_E := fun _ _ => rfl
theorem DecodeEncode.ld_E_H : DecodeEncode.Statement .ld_E_H := fun _ _ => rfl
theorem DecodeEncode.ld_E_L : DecodeEncode.Statement .ld_E_L := fun _ _ => rfl
theorem DecodeEncode.ld_E_indHL : DecodeEncode.Statement .ld_E_indHL := fun _ _ => rfl
theorem DecodeEncode.ld_E_A : DecodeEncode.Statement .ld_E_A := fun _ _ => rfl
theorem DecodeEncode.ld_H_B : DecodeEncode.Statement .ld_H_B := fun _ _ => rfl
theorem DecodeEncode.ld_H_C : DecodeEncode.Statement .ld_H_C := fun _ _ => rfl
theorem DecodeEncode.ld_H_D : DecodeEncode.Statement .ld_H_D := fun _ _ => rfl
theorem DecodeEncode.ld_H_E : DecodeEncode.Statement .ld_H_E := fun _ _ => rfl
theorem DecodeEncode.ld_H_H : DecodeEncode.Statement .ld_H_H := fun _ _ => rfl
theorem DecodeEncode.ld_H_L : DecodeEncode.Statement .ld_H_L := fun _ _ => rfl
theorem DecodeEncode.ld_H_indHL : DecodeEncode.Statement .ld_H_indHL := fun _ _ => rfl
theorem DecodeEncode.ld_H_A : DecodeEncode.Statement .ld_H_A := fun _ _ => rfl
theorem DecodeEncode.ld_L_B : DecodeEncode.Statement .ld_L_B := fun _ _ => rfl
theorem DecodeEncode.ld_L_C : DecodeEncode.Statement .ld_L_C := fun _ _ => rfl
theorem DecodeEncode.ld_L_D : DecodeEncode.Statement .ld_L_D := fun _ _ => rfl
theorem DecodeEncode.ld_L_E : DecodeEncode.Statement .ld_L_E := fun _ _ => rfl
theorem DecodeEncode.ld_L_H : DecodeEncode.Statement .ld_L_H := fun _ _ => rfl
theorem DecodeEncode.ld_L_L : DecodeEncode.Statement .ld_L_L := fun _ _ => rfl
theorem DecodeEncode.ld_L_indHL : DecodeEncode.Statement .ld_L_indHL := fun _ _ => rfl
theorem DecodeEncode.ld_L_A : DecodeEncode.Statement .ld_L_A := fun _ _ => rfl
theorem DecodeEncode.ld_indHL_B : DecodeEncode.Statement .ld_indHL_B := fun _ _ => rfl
theorem DecodeEncode.ld_indHL_C : DecodeEncode.Statement .ld_indHL_C := fun _ _ => rfl
theorem DecodeEncode.ld_indHL_D : DecodeEncode.Statement .ld_indHL_D := fun _ _ => rfl
theorem DecodeEncode.ld_indHL_E : DecodeEncode.Statement .ld_indHL_E := fun _ _ => rfl
theorem DecodeEncode.ld_indHL_H : DecodeEncode.Statement .ld_indHL_H := fun _ _ => rfl
theorem DecodeEncode.ld_indHL_L : DecodeEncode.Statement .ld_indHL_L := fun _ _ => rfl
theorem DecodeEncode.halt : DecodeEncode.Statement .halt := fun _ _ => rfl
theorem DecodeEncode.ld_indHL_A : DecodeEncode.Statement .ld_indHL_A := fun _ _ => rfl
theorem DecodeEncode.ld_A_B : DecodeEncode.Statement .ld_A_B := fun _ _ => rfl
theorem DecodeEncode.ld_A_C : DecodeEncode.Statement .ld_A_C := fun _ _ => rfl
theorem DecodeEncode.ld_A_D : DecodeEncode.Statement .ld_A_D := fun _ _ => rfl
theorem DecodeEncode.ld_A_E : DecodeEncode.Statement .ld_A_E := fun _ _ => rfl
theorem DecodeEncode.ld_A_H : DecodeEncode.Statement .ld_A_H := fun _ _ => rfl
theorem DecodeEncode.ld_A_L : DecodeEncode.Statement .ld_A_L := fun _ _ => rfl
theorem DecodeEncode.ld_A_indHL : DecodeEncode.Statement .ld_A_indHL := fun _ _ => rfl
theorem DecodeEncode.ld_A_A : DecodeEncode.Statement .ld_A_A := fun _ _ => rfl
theorem DecodeEncode.add_A_B : DecodeEncode.Statement .add_A_B := fun _ _ => rfl
theorem DecodeEncode.add_A_C : DecodeEncode.Statement .add_A_C := fun _ _ => rfl
theorem DecodeEncode.add_A_D : DecodeEncode.Statement .add_A_D := fun _ _ => rfl
theorem DecodeEncode.add_A_E : DecodeEncode.Statement .add_A_E := fun _ _ => rfl
theorem DecodeEncode.add_A_H : DecodeEncode.Statement .add_A_H := fun _ _ => rfl
theorem DecodeEncode.add_A_L : DecodeEncode.Statement .add_A_L := fun _ _ => rfl
theorem DecodeEncode.add_A_indHL : DecodeEncode.Statement .add_A_indHL := fun _ _ => rfl
theorem DecodeEncode.add_A_A : DecodeEncode.Statement .add_A_A := fun _ _ => rfl
theorem DecodeEncode.adc_A_B : DecodeEncode.Statement .adc_A_B := fun _ _ => rfl
theorem DecodeEncode.adc_A_C : DecodeEncode.Statement .adc_A_C := fun _ _ => rfl
theorem DecodeEncode.adc_A_D : DecodeEncode.Statement .adc_A_D := fun _ _ => rfl
theorem DecodeEncode.adc_A_E : DecodeEncode.Statement .adc_A_E := fun _ _ => rfl
theorem DecodeEncode.adc_A_H : DecodeEncode.Statement .adc_A_H := fun _ _ => rfl
theorem DecodeEncode.adc_A_L : DecodeEncode.Statement .adc_A_L := fun _ _ => rfl
theorem DecodeEncode.adc_A_indHL : DecodeEncode.Statement .adc_A_indHL := fun _ _ => rfl
theorem DecodeEncode.adc_A_A : DecodeEncode.Statement .adc_A_A := fun _ _ => rfl
theorem DecodeEncode.sub_A_B : DecodeEncode.Statement .sub_A_B := fun _ _ => rfl
theorem DecodeEncode.sub_A_C : DecodeEncode.Statement .sub_A_C := fun _ _ => rfl
theorem DecodeEncode.sub_A_D : DecodeEncode.Statement .sub_A_D := fun _ _ => rfl
theorem DecodeEncode.sub_A_E : DecodeEncode.Statement .sub_A_E := fun _ _ => rfl
theorem DecodeEncode.sub_A_H : DecodeEncode.Statement .sub_A_H := fun _ _ => rfl
theorem DecodeEncode.sub_A_L : DecodeEncode.Statement .sub_A_L := fun _ _ => rfl
theorem DecodeEncode.sub_A_indHL : DecodeEncode.Statement .sub_A_indHL := fun _ _ => rfl
theorem DecodeEncode.sub_A_A : DecodeEncode.Statement .sub_A_A := fun _ _ => rfl
theorem DecodeEncode.sbc_A_B : DecodeEncode.Statement .sbc_A_B := fun _ _ => rfl
theorem DecodeEncode.sbc_A_C : DecodeEncode.Statement .sbc_A_C := fun _ _ => rfl
theorem DecodeEncode.sbc_A_D : DecodeEncode.Statement .sbc_A_D := fun _ _ => rfl
theorem DecodeEncode.sbc_A_E : DecodeEncode.Statement .sbc_A_E := fun _ _ => rfl
theorem DecodeEncode.sbc_A_H : DecodeEncode.Statement .sbc_A_H := fun _ _ => rfl
theorem DecodeEncode.sbc_A_L : DecodeEncode.Statement .sbc_A_L := fun _ _ => rfl
theorem DecodeEncode.sbc_A_indHL : DecodeEncode.Statement .sbc_A_indHL := fun _ _ => rfl
theorem DecodeEncode.sbc_A_A : DecodeEncode.Statement .sbc_A_A := fun _ _ => rfl
theorem DecodeEncode.and_A_B : DecodeEncode.Statement .and_A_B := fun _ _ => rfl
theorem DecodeEncode.and_A_C : DecodeEncode.Statement .and_A_C := fun _ _ => rfl
theorem DecodeEncode.and_A_D : DecodeEncode.Statement .and_A_D := fun _ _ => rfl
theorem DecodeEncode.and_A_E : DecodeEncode.Statement .and_A_E := fun _ _ => rfl
theorem DecodeEncode.and_A_H : DecodeEncode.Statement .and_A_H := fun _ _ => rfl
theorem DecodeEncode.and_A_L : DecodeEncode.Statement .and_A_L := fun _ _ => rfl
theorem DecodeEncode.and_A_indHL : DecodeEncode.Statement .and_A_indHL := fun _ _ => rfl
theorem DecodeEncode.and_A_A : DecodeEncode.Statement .and_A_A := fun _ _ => rfl
theorem DecodeEncode.xor_A_B : DecodeEncode.Statement .xor_A_B := fun _ _ => rfl
theorem DecodeEncode.xor_A_C : DecodeEncode.Statement .xor_A_C := fun _ _ => rfl
theorem DecodeEncode.xor_A_D : DecodeEncode.Statement .xor_A_D := fun _ _ => rfl
theorem DecodeEncode.xor_A_E : DecodeEncode.Statement .xor_A_E := fun _ _ => rfl
theorem DecodeEncode.xor_A_H : DecodeEncode.Statement .xor_A_H := fun _ _ => rfl
theorem DecodeEncode.xor_A_L : DecodeEncode.Statement .xor_A_L := fun _ _ => rfl
theorem DecodeEncode.xor_A_indHL : DecodeEncode.Statement .xor_A_indHL := fun _ _ => rfl
theorem DecodeEncode.xor_A_A : DecodeEncode.Statement .xor_A_A := fun _ _ => rfl
theorem DecodeEncode.or_A_B : DecodeEncode.Statement .or_A_B := fun _ _ => rfl
theorem DecodeEncode.or_A_C : DecodeEncode.Statement .or_A_C := fun _ _ => rfl
theorem DecodeEncode.or_A_D : DecodeEncode.Statement .or_A_D := fun _ _ => rfl
theorem DecodeEncode.or_A_E : DecodeEncode.Statement .or_A_E := fun _ _ => rfl
theorem DecodeEncode.or_A_H : DecodeEncode.Statement .or_A_H := fun _ _ => rfl
theorem DecodeEncode.or_A_L : DecodeEncode.Statement .or_A_L := fun _ _ => rfl
theorem DecodeEncode.or_A_indHL : DecodeEncode.Statement .or_A_indHL := fun _ _ => rfl
theorem DecodeEncode.or_A_A : DecodeEncode.Statement .or_A_A := fun _ _ => rfl
theorem DecodeEncode.cp_A_B : DecodeEncode.Statement .cp_A_B := fun _ _ => rfl
theorem DecodeEncode.cp_A_C : DecodeEncode.Statement .cp_A_C := fun _ _ => rfl
theorem DecodeEncode.cp_A_D : DecodeEncode.Statement .cp_A_D := fun _ _ => rfl
theorem DecodeEncode.cp_A_E : DecodeEncode.Statement .cp_A_E := fun _ _ => rfl
theorem DecodeEncode.cp_A_H : DecodeEncode.Statement .cp_A_H := fun _ _ => rfl
theorem DecodeEncode.cp_A_L : DecodeEncode.Statement .cp_A_L := fun _ _ => rfl
theorem DecodeEncode.cp_A_indHL : DecodeEncode.Statement .cp_A_indHL := fun _ _ => rfl
theorem DecodeEncode.cp_A_A : DecodeEncode.Statement .cp_A_A := fun _ _ => rfl
theorem DecodeEncode.ret_NZ : DecodeEncode.Statement .ret_NZ := fun _ _ => rfl
theorem DecodeEncode.pop_BC : DecodeEncode.Statement .pop_BC := fun _ _ => rfl
theorem DecodeEncode.jp_NZ_a16 : DecodeEncode.Statement .jp_NZ_a16 := fun _ _ => rfl
theorem DecodeEncode.jp_a16 : DecodeEncode.Statement .jp_a16 := fun _ _ => rfl
theorem DecodeEncode.call_NZ_a16 : DecodeEncode.Statement .call_NZ_a16 := fun _ _ => rfl
theorem DecodeEncode.push_BC : DecodeEncode.Statement .push_BC := fun _ _ => rfl
theorem DecodeEncode.add_A_d8 : DecodeEncode.Statement .add_A_d8 := fun _ _ => rfl
theorem DecodeEncode.ret_Z : DecodeEncode.Statement .ret_Z := fun _ _ => rfl
theorem DecodeEncode.ret : DecodeEncode.Statement .ret := fun _ _ => rfl
theorem DecodeEncode.jp_Z_a16 : DecodeEncode.Statement .jp_Z_a16 := fun _ _ => rfl
theorem DecodeEncode.call_Z_a16 : DecodeEncode.Statement .call_Z_a16 := fun _ _ => rfl
theorem DecodeEncode.call_a16 : DecodeEncode.Statement .call_a16 := fun _ _ => rfl
theorem DecodeEncode.adc_A_d8 : DecodeEncode.Statement .adc_A_d8 := fun _ _ => rfl
theorem DecodeEncode.ret_NC : DecodeEncode.Statement .ret_NC := fun _ _ => rfl
theorem DecodeEncode.pop_DE : DecodeEncode.Statement .pop_DE := fun _ _ => rfl
theorem DecodeEncode.jp_NC_a16 : DecodeEncode.Statement .jp_NC_a16 := fun _ _ => rfl
theorem DecodeEncode.call_NC_a16 : DecodeEncode.Statement .call_NC_a16 := fun _ _ => rfl
theorem DecodeEncode.push_DE : DecodeEncode.Statement .push_DE := fun _ _ => rfl
theorem DecodeEncode.sub_A_d8 : DecodeEncode.Statement .sub_A_d8 := fun _ _ => rfl
theorem DecodeEncode.ret_C : DecodeEncode.Statement .ret_C := fun _ _ => rfl
theorem DecodeEncode.jp_C_a16 : DecodeEncode.Statement .jp_C_a16 := fun _ _ => rfl
theorem DecodeEncode.call_C_a16 : DecodeEncode.Statement .call_C_a16 := fun _ _ => rfl
theorem DecodeEncode.sbc_A_d8 : DecodeEncode.Statement .sbc_A_d8 := fun _ _ => rfl
theorem DecodeEncode.ldh_inda8_A : DecodeEncode.Statement .ldh_inda8_A := fun _ _ => rfl
theorem DecodeEncode.pop_HL : DecodeEncode.Statement .pop_HL := fun _ _ => rfl
theorem DecodeEncode.ld_indC_A : DecodeEncode.Statement .ld_indC_A := fun _ _ => rfl
theorem DecodeEncode.push_HL : DecodeEncode.Statement .push_HL := fun _ _ => rfl
theorem DecodeEncode.and_A_d8 : DecodeEncode.Statement .and_A_d8 := fun _ _ => rfl
theorem DecodeEncode.jp_HL : DecodeEncode.Statement .jp_HL := fun _ _ => rfl
theorem DecodeEncode.ld_inda16_A : DecodeEncode.Statement .ld_inda16_A := fun _ _ => rfl
theorem DecodeEncode.xor_A_d8 : DecodeEncode.Statement .xor_A_d8 := fun _ _ => rfl
theorem DecodeEncode.ldh_A_inda8 : DecodeEncode.Statement .ldh_A_inda8 := fun _ _ => rfl
theorem DecodeEncode.pop_AF : DecodeEncode.Statement .pop_AF := fun _ _ => rfl
theorem DecodeEncode.ld_A_indC : DecodeEncode.Statement .ld_A_indC := fun _ _ => rfl
theorem DecodeEncode.push_AF : DecodeEncode.Statement .push_AF := fun _ _ => rfl
theorem DecodeEncode.or_A_d8 : DecodeEncode.Statement .or_A_d8 := fun _ _ => rfl
theorem DecodeEncode.ld_SP_HL : DecodeEncode.Statement .ld_SP_HL := fun _ _ => rfl
theorem DecodeEncode.ld_A_inda16 : DecodeEncode.Statement .ld_A_inda16 := fun _ _ => rfl
theorem DecodeEncode.cp_A_d8 : DecodeEncode.Statement .cp_A_d8 := fun _ _ => rfl
theorem DecodeEncode.rlc_B : DecodeEncode.Statement .rlc_B := fun _ _ => rfl
theorem DecodeEncode.rlc_C : DecodeEncode.Statement .rlc_C := fun _ _ => rfl
theorem DecodeEncode.rlc_D : DecodeEncode.Statement .rlc_D := fun _ _ => rfl
theorem DecodeEncode.rlc_E : DecodeEncode.Statement .rlc_E := fun _ _ => rfl
theorem DecodeEncode.rlc_H : DecodeEncode.Statement .rlc_H := fun _ _ => rfl
theorem DecodeEncode.rlc_L : DecodeEncode.Statement .rlc_L := fun _ _ => rfl
theorem DecodeEncode.rlc_indHL : DecodeEncode.Statement .rlc_indHL := fun _ _ => rfl
theorem DecodeEncode.rlc_A : DecodeEncode.Statement .rlc_A := fun _ _ => rfl
theorem DecodeEncode.rrc_B : DecodeEncode.Statement .rrc_B := fun _ _ => rfl
theorem DecodeEncode.rrc_C : DecodeEncode.Statement .rrc_C := fun _ _ => rfl
theorem DecodeEncode.rrc_D : DecodeEncode.Statement .rrc_D := fun _ _ => rfl
theorem DecodeEncode.rrc_E : DecodeEncode.Statement .rrc_E := fun _ _ => rfl
theorem DecodeEncode.rrc_H : DecodeEncode.Statement .rrc_H := fun _ _ => rfl
theorem DecodeEncode.rrc_L : DecodeEncode.Statement .rrc_L := fun _ _ => rfl
theorem DecodeEncode.rrc_indHL : DecodeEncode.Statement .rrc_indHL := fun _ _ => rfl
theorem DecodeEncode.rrc_A : DecodeEncode.Statement .rrc_A := fun _ _ => rfl
theorem DecodeEncode.rl_B : DecodeEncode.Statement .rl_B := fun _ _ => rfl
theorem DecodeEncode.rl_C : DecodeEncode.Statement .rl_C := fun _ _ => rfl
theorem DecodeEncode.rl_D : DecodeEncode.Statement .rl_D := fun _ _ => rfl
theorem DecodeEncode.rl_E : DecodeEncode.Statement .rl_E := fun _ _ => rfl
theorem DecodeEncode.rl_H : DecodeEncode.Statement .rl_H := fun _ _ => rfl
theorem DecodeEncode.rl_L : DecodeEncode.Statement .rl_L := fun _ _ => rfl
theorem DecodeEncode.rl_indHL : DecodeEncode.Statement .rl_indHL := fun _ _ => rfl
theorem DecodeEncode.rl_A : DecodeEncode.Statement .rl_A := fun _ _ => rfl
theorem DecodeEncode.rr_B : DecodeEncode.Statement .rr_B := fun _ _ => rfl
theorem DecodeEncode.rr_C : DecodeEncode.Statement .rr_C := fun _ _ => rfl
theorem DecodeEncode.rr_D : DecodeEncode.Statement .rr_D := fun _ _ => rfl
theorem DecodeEncode.rr_E : DecodeEncode.Statement .rr_E := fun _ _ => rfl
theorem DecodeEncode.rr_H : DecodeEncode.Statement .rr_H := fun _ _ => rfl
theorem DecodeEncode.rr_L : DecodeEncode.Statement .rr_L := fun _ _ => rfl
theorem DecodeEncode.rr_indHL : DecodeEncode.Statement .rr_indHL := fun _ _ => rfl
theorem DecodeEncode.rr_A : DecodeEncode.Statement .rr_A := fun _ _ => rfl
theorem DecodeEncode.bit_0_B : DecodeEncode.Statement .bit_0_B := fun _ _ => rfl
theorem DecodeEncode.bit_0_C : DecodeEncode.Statement .bit_0_C := fun _ _ => rfl
theorem DecodeEncode.bit_0_D : DecodeEncode.Statement .bit_0_D := fun _ _ => rfl
theorem DecodeEncode.bit_0_E : DecodeEncode.Statement .bit_0_E := fun _ _ => rfl
theorem DecodeEncode.bit_0_H : DecodeEncode.Statement .bit_0_H := fun _ _ => rfl
theorem DecodeEncode.bit_0_L : DecodeEncode.Statement .bit_0_L := fun _ _ => rfl
theorem DecodeEncode.bit_0_indHL : DecodeEncode.Statement .bit_0_indHL := fun _ _ => rfl
theorem DecodeEncode.bit_0_A : DecodeEncode.Statement .bit_0_A := fun _ _ => rfl
theorem DecodeEncode.bit_1_B : DecodeEncode.Statement .bit_1_B := fun _ _ => rfl
theorem DecodeEncode.bit_1_C : DecodeEncode.Statement .bit_1_C := fun _ _ => rfl
theorem DecodeEncode.bit_1_D : DecodeEncode.Statement .bit_1_D := fun _ _ => rfl
theorem DecodeEncode.bit_1_E : DecodeEncode.Statement .bit_1_E := fun _ _ => rfl
theorem DecodeEncode.bit_1_H : DecodeEncode.Statement .bit_1_H := fun _ _ => rfl
theorem DecodeEncode.bit_1_L : DecodeEncode.Statement .bit_1_L := fun _ _ => rfl
theorem DecodeEncode.bit_1_indHL : DecodeEncode.Statement .bit_1_indHL := fun _ _ => rfl
theorem DecodeEncode.bit_1_A : DecodeEncode.Statement .bit_1_A := fun _ _ => rfl
theorem DecodeEncode.bit_2_B : DecodeEncode.Statement .bit_2_B := fun _ _ => rfl
theorem DecodeEncode.bit_2_C : DecodeEncode.Statement .bit_2_C := fun _ _ => rfl
theorem DecodeEncode.bit_2_D : DecodeEncode.Statement .bit_2_D := fun _ _ => rfl
theorem DecodeEncode.bit_2_E : DecodeEncode.Statement .bit_2_E := fun _ _ => rfl
theorem DecodeEncode.bit_2_H : DecodeEncode.Statement .bit_2_H := fun _ _ => rfl
theorem DecodeEncode.bit_2_L : DecodeEncode.Statement .bit_2_L := fun _ _ => rfl
theorem DecodeEncode.bit_2_indHL : DecodeEncode.Statement .bit_2_indHL := fun _ _ => rfl
theorem DecodeEncode.bit_2_A : DecodeEncode.Statement .bit_2_A := fun _ _ => rfl
theorem DecodeEncode.bit_3_B : DecodeEncode.Statement .bit_3_B := fun _ _ => rfl
theorem DecodeEncode.bit_3_C : DecodeEncode.Statement .bit_3_C := fun _ _ => rfl
theorem DecodeEncode.bit_3_D : DecodeEncode.Statement .bit_3_D := fun _ _ => rfl
theorem DecodeEncode.bit_3_E : DecodeEncode.Statement .bit_3_E := fun _ _ => rfl
theorem DecodeEncode.bit_3_H : DecodeEncode.Statement .bit_3_H := fun _ _ => rfl
theorem DecodeEncode.bit_3_L : DecodeEncode.Statement .bit_3_L := fun _ _ => rfl
theorem DecodeEncode.bit_3_indHL : DecodeEncode.Statement .bit_3_indHL := fun _ _ => rfl
theorem DecodeEncode.bit_3_A : DecodeEncode.Statement .bit_3_A := fun _ _ => rfl
theorem DecodeEncode.bit_4_B : DecodeEncode.Statement .bit_4_B := fun _ _ => rfl
theorem DecodeEncode.bit_4_C : DecodeEncode.Statement .bit_4_C := fun _ _ => rfl
theorem DecodeEncode.bit_4_D : DecodeEncode.Statement .bit_4_D := fun _ _ => rfl
theorem DecodeEncode.bit_4_E : DecodeEncode.Statement .bit_4_E := fun _ _ => rfl
theorem DecodeEncode.bit_4_H : DecodeEncode.Statement .bit_4_H := fun _ _ => rfl
theorem DecodeEncode.bit_4_L : DecodeEncode.Statement .bit_4_L := fun _ _ => rfl
theorem DecodeEncode.bit_4_indHL : DecodeEncode.Statement .bit_4_indHL := fun _ _ => rfl
theorem DecodeEncode.bit_4_A : DecodeEncode.Statement .bit_4_A := fun _ _ => rfl
theorem DecodeEncode.bit_5_B : DecodeEncode.Statement .bit_5_B := fun _ _ => rfl
theorem DecodeEncode.bit_5_C : DecodeEncode.Statement .bit_5_C := fun _ _ => rfl
theorem DecodeEncode.bit_5_D : DecodeEncode.Statement .bit_5_D := fun _ _ => rfl
theorem DecodeEncode.bit_5_E : DecodeEncode.Statement .bit_5_E := fun _ _ => rfl
theorem DecodeEncode.bit_5_H : DecodeEncode.Statement .bit_5_H := fun _ _ => rfl
theorem DecodeEncode.bit_5_L : DecodeEncode.Statement .bit_5_L := fun _ _ => rfl
theorem DecodeEncode.bit_5_indHL : DecodeEncode.Statement .bit_5_indHL := fun _ _ => rfl
theorem DecodeEncode.bit_5_A : DecodeEncode.Statement .bit_5_A := fun _ _ => rfl
theorem DecodeEncode.bit_6_B : DecodeEncode.Statement .bit_6_B := fun _ _ => rfl
theorem DecodeEncode.bit_6_C : DecodeEncode.Statement .bit_6_C := fun _ _ => rfl
theorem DecodeEncode.bit_6_D : DecodeEncode.Statement .bit_6_D := fun _ _ => rfl
theorem DecodeEncode.bit_6_E : DecodeEncode.Statement .bit_6_E := fun _ _ => rfl
theorem DecodeEncode.bit_6_H : DecodeEncode.Statement .bit_6_H := fun _ _ => rfl
theorem DecodeEncode.bit_6_L : DecodeEncode.Statement .bit_6_L := fun _ _ => rfl
theorem DecodeEncode.bit_6_indHL : DecodeEncode.Statement .bit_6_indHL := fun _ _ => rfl
theorem DecodeEncode.bit_6_A : DecodeEncode.Statement .bit_6_A := fun _ _ => rfl
theorem DecodeEncode.bit_7_B : DecodeEncode.Statement .bit_7_B := fun _ _ => rfl
theorem DecodeEncode.bit_7_C : DecodeEncode.Statement .bit_7_C := fun _ _ => rfl
theorem DecodeEncode.bit_7_D : DecodeEncode.Statement .bit_7_D := fun _ _ => rfl
theorem DecodeEncode.bit_7_E : DecodeEncode.Statement .bit_7_E := fun _ _ => rfl
theorem DecodeEncode.bit_7_H : DecodeEncode.Statement .bit_7_H := fun _ _ => rfl
theorem DecodeEncode.bit_7_L : DecodeEncode.Statement .bit_7_L := fun _ _ => rfl
theorem DecodeEncode.bit_7_indHL : DecodeEncode.Statement .bit_7_indHL := fun _ _ => rfl
theorem DecodeEncode.bit_7_A : DecodeEncode.Statement .bit_7_A := fun _ _ => rfl

end Sys2Proof.Laws
end

