-- ==== Sys2Proof/Tests/Slice0.lean ====
section
/-! SUPPORT. Tests of one step or one word each. Words come from spec/opcode_table.json and 30_encoding.md, expected results from
95_test_vectors.md (its section is named at each test). The last part shows that every obligation's hypotheses can be met. -/

namespace Sys2Proof.Tests

open Sys2Proof.Machine Sys2Proof.Claims

/-! ## WellFormed refuses ill-formed terms -/

/-- 0x80 is ADD A,B, so UNKNOWN does not carry it. -/
theorem test_wf_refuses_admitted_byte : (Instr.unknown 0x80).wf = false := by decide

/-- 0xCB is the prefix, not a base instruction. -/
theorem test_wf_refuses_prefix_byte : (Instr.unknown 0xCB).wf = false := by decide

/-- 0xCB 0x1F is RR A and 0xCB 0x40 is BIT 0,B. -/
theorem test_wf_refuses_admitted_second_byte :
    (Instr.unknownCb 0x1F).wf = false ∧ (Instr.unknownCb 0x40).wf = false ∧ (Instr.unknownCb 0x7F).wf = false := by decide

theorem test_wf_admits_unknown_bytes :
    (Instr.unknown 0x10).wf = true ∧ (Instr.unknownCb 0x20).wf = true ∧ (Instr.unknownCb 0x3F).wf = true ∧
    (Instr.unknownCb 0x80).wf = true ∧ (Instr.unknownCb 0xFF).wf = true := by decide

/-- An immediate where there is none, none where there is one, and the wrong width. -/
theorem test_wf_refuses_wrong_immediate :
    (Insn.mk .nop (.byte 0)).wf = false ∧ (Insn.mk .ld_B_d8 .none).wf = false ∧ (Insn.mk .ld_B_d8 (.word 0)).wf = false ∧
    (Insn.mk .jp_a16 (.byte 0)).wf = false ∧ (Insn.mk .rlc_B (.byte 0)).wf = false ∧
    (Insn.mk (.unknown 0x80) .none).wf = false := by decide

theorem test_wf_admits_right_immediate :
    (Insn.mk .nop .none).wf = true ∧ (Insn.mk .ld_B_d8 (.byte 0xFF)).wf = true ∧ (Insn.mk .jp_a16 (.word 0xFFFF)).wf = true := by
  decide

/-- REGIONS that R52 does not allow: WRAM inside VRAM, a range past 0xFFFF, BOOT outside ROM0. -/
theorem test_regions_refused :
    regionsOk { defaultRegions with wram := ⟨0x9000, 0x9FFF⟩ } = false ∧
    regionsOk { defaultRegions with hram := ⟨0xFF80, 0x10000⟩ } = false ∧
    regionsOk { defaultRegions with rom0 := ⟨0x0000, 0x00FE⟩ } = false := by decide

/-- Arrays that are not in canonical form: a zero cell, falling places, a place past the end. -/
theorem test_arrays_refused :
    arrayOk 16 [(3, 0x00)] = false ∧ arrayOk 16 [(4, 0x01), (3, 0x02)] = false ∧ arrayOk 16 [(16, 0x01)] = false ∧
    arrayOk 16 [(3, 0x02), (15, 0x01)] = true := by decide

/-! ## Decoding: every row of the opcode table, by its `match` word -/

def decodesTo (nbits : Nat) (rows : List (Nat × Instr)) : Bool :=
  rows.all fun r => decodeTableWord nbits r.1 == some r.2

theorem test_decode_base_00 : decodesTo 8
  [(0x00, .nop), (0x01, .ld_BC_d16), (0x02, .ld_indBC_A), (0x03, .inc_BC), (0x04, .inc_B), (0x05, .dec_B),
   (0x06, .ld_B_d8), (0x07, .rlca), (0x08, .ld_inda16_SP), (0x09, .add_HL_BC), (0x0A, .ld_A_indBC), (0x0B, .dec_BC),
   (0x0C, .inc_C), (0x0D, .dec_C), (0x0E, .ld_C_d8), (0x0F, .rrca)] = true := by decide

theorem test_decode_base_11 : decodesTo 8
  [(0x11, .ld_DE_d16), (0x12, .ld_indDE_A), (0x13, .inc_DE), (0x14, .inc_D), (0x15, .dec_D), (0x16, .ld_D_d8),
   (0x17, .rla), (0x18, .jr_e8), (0x19, .add_HL_DE), (0x1A, .ld_A_indDE), (0x1B, .dec_DE), (0x1C, .inc_E),
   (0x1D, .dec_E), (0x1E, .ld_E_d8), (0x1F, .rra), (0x20, .jr_NZ_e8)] = true := by decide

theorem test_decode_base_21 : decodesTo 8
  [(0x21, .ld_HL_d16), (0x22, .ld_indHLinc_A), (0x23, .inc_HL), (0x24, .inc_H), (0x25, .dec_H), (0x26, .ld_H_d8),
   (0x28, .jr_Z_e8), (0x29, .add_HL_HL), (0x2A, .ld_A_indHLinc), (0x2B, .dec_HL), (0x2C, .inc_L), (0x2D, .dec_L),
   (0x2E, .ld_L_d8), (0x30, .jr_NC_e8), (0x31, .ld_SP_d16), (0x32, .ld_indHLdec_A)] = true := by decide

theorem test_decode_base_33 : decodesTo 8
  [(0x33, .inc_SP), (0x34, .inc_indHL), (0x35, .dec_indHL), (0x36, .ld_indHL_d8), (0x38, .jr_C_e8),
   (0x39, .add_HL_SP), (0x3A, .ld_A_indHLdec), (0x3B, .dec_SP), (0x3C, .inc_A), (0x3D, .dec_A), (0x3E, .ld_A_d8),
   (0x40, .ld_B_B), (0x41, .ld_B_C), (0x42, .ld_B_D), (0x43, .ld_B_E), (0x44, .ld_B_H)] = true := by decide

theorem test_decode_base_45 : decodesTo 8
  [(0x45, .ld_B_L), (0x46, .ld_B_indHL), (0x47, .ld_B_A), (0x48, .ld_C_B), (0x49, .ld_C_C), (0x4A, .ld_C_D),
   (0x4B, .ld_C_E), (0x4C, .ld_C_H), (0x4D, .ld_C_L), (0x4E, .ld_C_indHL), (0x4F, .ld_C_A), (0x50, .ld_D_B),
   (0x51, .ld_D_C), (0x52, .ld_D_D), (0x53, .ld_D_E), (0x54, .ld_D_H)] = true := by decide

theorem test_decode_base_55 : decodesTo 8
  [(0x55, .ld_D_L), (0x56, .ld_D_indHL), (0x57, .ld_D_A), (0x58, .ld_E_B), (0x59, .ld_E_C), (0x5A, .ld_E_D),
   (0x5B, .ld_E_E), (0x5C, .ld_E_H), (0x5D, .ld_E_L), (0x5E, .ld_E_indHL), (0x5F, .ld_E_A), (0x60, .ld_H_B),
   (0x61, .ld_H_C), (0x62, .ld_H_D), (0x63, .ld_H_E), (0x64, .ld_H_H)] = true := by decide

theorem test_decode_base_65 : decodesTo 8
  [(0x65, .ld_H_L), (0x66, .ld_H_indHL), (0x67, .ld_H_A), (0x68, .ld_L_B), (0x69, .ld_L_C), (0x6A, .ld_L_D),
   (0x6B, .ld_L_E), (0x6C, .ld_L_H), (0x6D, .ld_L_L), (0x6E, .ld_L_indHL), (0x6F, .ld_L_A), (0x70, .ld_indHL_B),
   (0x71, .ld_indHL_C), (0x72, .ld_indHL_D), (0x73, .ld_indHL_E), (0x74, .ld_indHL_H)] = true := by decide

theorem test_decode_base_75 : decodesTo 8
  [(0x75, .ld_indHL_L), (0x76, .halt), (0x77, .ld_indHL_A), (0x78, .ld_A_B), (0x79, .ld_A_C), (0x7A, .ld_A_D),
   (0x7B, .ld_A_E), (0x7C, .ld_A_H), (0x7D, .ld_A_L), (0x7E, .ld_A_indHL), (0x7F, .ld_A_A), (0x80, .add_A_B),
   (0x81, .add_A_C), (0x82, .add_A_D), (0x83, .add_A_E), (0x84, .add_A_H)] = true := by decide

theorem test_decode_base_85 : decodesTo 8
  [(0x85, .add_A_L), (0x86, .add_A_indHL), (0x87, .add_A_A), (0x88, .adc_A_B), (0x89, .adc_A_C), (0x8A, .adc_A_D),
   (0x8B, .adc_A_E), (0x8C, .adc_A_H), (0x8D, .adc_A_L), (0x8E, .adc_A_indHL), (0x8F, .adc_A_A), (0x90, .sub_A_B),
   (0x91, .sub_A_C), (0x92, .sub_A_D), (0x93, .sub_A_E), (0x94, .sub_A_H)] = true := by decide

theorem test_decode_base_95 : decodesTo 8
  [(0x95, .sub_A_L), (0x96, .sub_A_indHL), (0x97, .sub_A_A), (0x98, .sbc_A_B), (0x99, .sbc_A_C), (0x9A, .sbc_A_D),
   (0x9B, .sbc_A_E), (0x9C, .sbc_A_H), (0x9D, .sbc_A_L), (0x9E, .sbc_A_indHL), (0x9F, .sbc_A_A), (0xA0, .and_A_B),
   (0xA1, .and_A_C), (0xA2, .and_A_D), (0xA3, .and_A_E), (0xA4, .and_A_H)] = true := by decide

theorem test_decode_base_A5 : decodesTo 8
  [(0xA5, .and_A_L), (0xA6, .and_A_indHL), (0xA7, .and_A_A), (0xA8, .xor_A_B), (0xA9, .xor_A_C), (0xAA, .xor_A_D),
   (0xAB, .xor_A_E), (0xAC, .xor_A_H), (0xAD, .xor_A_L), (0xAE, .xor_A_indHL), (0xAF, .xor_A_A), (0xB0, .or_A_B),
   (0xB1, .or_A_C), (0xB2, .or_A_D), (0xB3, .or_A_E), (0xB4, .or_A_H)] = true := by decide

theorem test_decode_base_B5 : decodesTo 8
  [(0xB5, .or_A_L), (0xB6, .or_A_indHL), (0xB7, .or_A_A), (0xB8, .cp_A_B), (0xB9, .cp_A_C), (0xBA, .cp_A_D),
   (0xBB, .cp_A_E), (0xBC, .cp_A_H), (0xBD, .cp_A_L), (0xBE, .cp_A_indHL), (0xBF, .cp_A_A), (0xC0, .ret_NZ),
   (0xC1, .pop_BC), (0xC2, .jp_NZ_a16), (0xC3, .jp_a16), (0xC4, .call_NZ_a16)] = true := by decide

theorem test_decode_base_C5 : decodesTo 8
  [(0xC5, .push_BC), (0xC6, .add_A_d8), (0xC8, .ret_Z), (0xC9, .ret), (0xCA, .jp_Z_a16), (0xCC, .call_Z_a16),
   (0xCD, .call_a16), (0xCE, .adc_A_d8), (0xD0, .ret_NC), (0xD1, .pop_DE), (0xD2, .jp_NC_a16), (0xD4, .call_NC_a16),
   (0xD5, .push_DE), (0xD6, .sub_A_d8), (0xD8, .ret_C), (0xDA, .jp_C_a16)] = true := by decide

theorem test_decode_base_DC : decodesTo 8
  [(0xDC, .call_C_a16), (0xDE, .sbc_A_d8), (0xE0, .ldh_inda8_A), (0xE1, .pop_HL), (0xE2, .ld_indC_A),
   (0xE5, .push_HL), (0xE6, .and_A_d8), (0xE9, .jp_HL), (0xEA, .ld_inda16_A), (0xEE, .xor_A_d8),
   (0xF0, .ldh_A_inda8), (0xF1, .pop_AF), (0xF2, .ld_A_indC), (0xF5, .push_AF), (0xF6, .or_A_d8), (0xF9, .ld_SP_HL)] = true := by decide

theorem test_decode_base_FA : decodesTo 8
  [(0xFA, .ld_A_inda16), (0xFE, .cp_A_d8)] = true := by decide

theorem test_decode_extended_CB00 : decodesTo 16
  [(0xCB00, .rlc_B), (0xCB01, .rlc_C), (0xCB02, .rlc_D), (0xCB03, .rlc_E), (0xCB04, .rlc_H), (0xCB05, .rlc_L),
   (0xCB06, .rlc_indHL), (0xCB07, .rlc_A), (0xCB08, .rrc_B), (0xCB09, .rrc_C), (0xCB0A, .rrc_D), (0xCB0B, .rrc_E),
   (0xCB0C, .rrc_H), (0xCB0D, .rrc_L), (0xCB0E, .rrc_indHL), (0xCB0F, .rrc_A)] = true := by decide

theorem test_decode_extended_CB10 : decodesTo 16
  [(0xCB10, .rl_B), (0xCB11, .rl_C), (0xCB12, .rl_D), (0xCB13, .rl_E), (0xCB14, .rl_H), (0xCB15, .rl_L),
   (0xCB16, .rl_indHL), (0xCB17, .rl_A), (0xCB18, .rr_B), (0xCB19, .rr_C), (0xCB1A, .rr_D), (0xCB1B, .rr_E),
   (0xCB1C, .rr_H), (0xCB1D, .rr_L), (0xCB1E, .rr_indHL), (0xCB1F, .rr_A)] = true := by decide

theorem test_decode_extended_CB40 : decodesTo 16
  [(0xCB40, .bit_0_B), (0xCB41, .bit_0_C), (0xCB42, .bit_0_D), (0xCB43, .bit_0_E), (0xCB44, .bit_0_H),
   (0xCB45, .bit_0_L), (0xCB46, .bit_0_indHL), (0xCB47, .bit_0_A), (0xCB48, .bit_1_B), (0xCB49, .bit_1_C),
   (0xCB4A, .bit_1_D), (0xCB4B, .bit_1_E), (0xCB4C, .bit_1_H), (0xCB4D, .bit_1_L), (0xCB4E, .bit_1_indHL),
   (0xCB4F, .bit_1_A)] = true := by decide

theorem test_decode_extended_CB50 : decodesTo 16
  [(0xCB50, .bit_2_B), (0xCB51, .bit_2_C), (0xCB52, .bit_2_D), (0xCB53, .bit_2_E), (0xCB54, .bit_2_H),
   (0xCB55, .bit_2_L), (0xCB56, .bit_2_indHL), (0xCB57, .bit_2_A), (0xCB58, .bit_3_B), (0xCB59, .bit_3_C),
   (0xCB5A, .bit_3_D), (0xCB5B, .bit_3_E), (0xCB5C, .bit_3_H), (0xCB5D, .bit_3_L), (0xCB5E, .bit_3_indHL),
   (0xCB5F, .bit_3_A)] = true := by decide

theorem test_decode_extended_CB60 : decodesTo 16
  [(0xCB60, .bit_4_B), (0xCB61, .bit_4_C), (0xCB62, .bit_4_D), (0xCB63, .bit_4_E), (0xCB64, .bit_4_H),
   (0xCB65, .bit_4_L), (0xCB66, .bit_4_indHL), (0xCB67, .bit_4_A), (0xCB68, .bit_5_B), (0xCB69, .bit_5_C),
   (0xCB6A, .bit_5_D), (0xCB6B, .bit_5_E), (0xCB6C, .bit_5_H), (0xCB6D, .bit_5_L), (0xCB6E, .bit_5_indHL),
   (0xCB6F, .bit_5_A)] = true := by decide

theorem test_decode_extended_CB70 : decodesTo 16
  [(0xCB70, .bit_6_B), (0xCB71, .bit_6_C), (0xCB72, .bit_6_D), (0xCB73, .bit_6_E), (0xCB74, .bit_6_H),
   (0xCB75, .bit_6_L), (0xCB76, .bit_6_indHL), (0xCB77, .bit_6_A), (0xCB78, .bit_7_B), (0xCB79, .bit_7_C),
   (0xCB7A, .bit_7_D), (0xCB7B, .bit_7_E), (0xCB7C, .bit_7_H), (0xCB7D, .bit_7_L), (0xCB7E, .bit_7_indHL),
   (0xCB7F, .bit_7_A)] = true := by decide

/-- R103: the bytes of the base table that are UNKNOWN (STOP, DAA, …, the unassigned ones). -/
theorem test_decode_unknown_base :
    ([0x10, 0x27, 0x2F, 0x37, 0x3F, 0xC7, 0xCF, 0xD3, 0xD7, 0xD9, 0xDB, 0xDD, 0xDF, 0xE3, 0xE4].all fun b : Nat =>
      decodeTableWord 8 b == some (.unknown (BitVec.ofNat 8 b))) = true ∧
    ([0xE7, 0xE8, 0xEB, 0xEC, 0xED, 0xEF, 0xF3, 0xF4, 0xF7, 0xF8, 0xFB, 0xFC, 0xFD, 0xFF].all fun b : Nat =>
      decodeTableWord 8 b == some (.unknown (BitVec.ofNat 8 b))) = true := by decide

theorem test_decode_unknown_extended :
    ([0x20, 0x27, 0x28, 0x2F, 0x30, 0x37, 0x38, 0x3F, 0x80, 0xBF, 0xC0, 0xFF].all fun b : Nat =>
      decodeTableWord 16 (0xCB00 + b) == some (.unknownCb (BitVec.ofNat 8 b))) = true := by decide

/-- LD HL,0xC000 is 21 00 C0 and LD (a16),SP takes its word little-endian (P2; R98, D9). -/
theorem test_decode_immediates :
    decodeInsn [0x21, 0x00, 0xC0, 0x76] = .ok (⟨.ld_HL_d16, .word 0xC000⟩, [0x76]) ∧
    decodeInsn [0x3E, 0x05] = .ok (⟨.ld_A_d8, .byte 0x05⟩, []) ∧
    decodeInsn [0xCB, 0x5F, 0x28] = .ok (⟨.bit_3_A, .none⟩, [0x28]) ∧
    decodeInsn [0x08, 0xFE] = .error .noImmediate ∧ decodeInsn [0xCB] = .error .noSecondByte ∧
    decodeInsn [] = .error .noOpcode := by decide

/-! ## Execution (95_test_vectors.md): the program's bytes lie at 0xC000 -/

/-- A start state: registers, packed flags, SP, further memory cells, and the program's bytes at PC = 0xC000. -/
def start (r : Regs) (f : Byte) (sp : Word) (cells : List (Word × Byte)) (bytes : List Byte) : State :=
  (cells.foldl (fun (s : State) (c : Word × Byte) => s.poke c.1 c.2)
    { State.reset with regs := r, flags := Flags.ofByte f, pc := 0xC000, sp := sp }).pokeBytes 0xC000 bytes

/-- What the tests look at after a step that completes: registers, packed flags, PC, SP, cycles. -/
structure View where
  regs : Regs
  f : Byte
  pc : Word
  sp : Word
  clk : Nat
  deriving DecidableEq, Repr

def after (s : State) : Option View :=
  match step s with
  | .next t => if t.fault = none then some ⟨t.regs, t.flags.toByte, t.pc, t.sp, t.clk⟩ else none
  | .fault _ => none
  | .refused _ => none

/-- The byte at an address after the step. -/
def byteAfter (s : State) (a : Word) : Option Byte :=
  match step s with
  | .next t =>
    match t.memRead a with
    | .ok v => some v
    | .error _ => none
  | .fault _ => none
  | .refused _ => none

/-- The fault that a step latches, if it changes nothing else. -/
def latched (s : State) : Option Fault :=
  match step s with
  | .next t => if t = { s with fault := t.fault } then t.fault else none
  | .fault _ => none
  | .refused _ => none

/-- All registers zero but A. -/
def onlyA (a : Byte) : Regs := ⟨a, 0, 0, 0, 0, 0, 0⟩

/-- All registers zero but A, H and L. -/
def aHl (a h l : Byte) : Regs := ⟨a, 0, 0, 0, 0, h, l⟩

/-- V1, S2: ADD A,0x01 from 0xFF. -/
theorem test_add_wraps : after (start (onlyA 0xFF) 0x00 0 [] [0xC6, 0x01]) = some ⟨onlyA 0x00, 0xB0, 0xC002, 0, 8⟩ := by decide

/-- V1: ADD A,A from 0x88. -/
theorem test_add_same_register : after (start (onlyA 0x88) 0x00 0 [] [0x87]) = some ⟨onlyA 0x10, 0x30, 0xC001, 0, 4⟩ := by decide

/-- V1: ADC A,0xFF from 0xFF with carry. -/
theorem test_adc_carry_in : after (start (onlyA 0xFF) 0x10 0 [] [0xCE, 0xFF]) = some ⟨onlyA 0xFF, 0x30, 0xC002, 0, 8⟩ := by decide

/-- V1, S3: SUB A,0x20 from 0x10, and SUB A,0x0F from 0x17. -/
theorem test_sub_borrows :
    after (start (onlyA 0x10) 0x00 0 [] [0xD6, 0x20]) = some ⟨onlyA 0xF0, 0x50, 0xC002, 0, 8⟩ ∧
    after (start (onlyA 0x17) 0x00 0 [] [0xD6, 0x0F]) = some ⟨onlyA 0x08, 0x60, 0xC002, 0, 8⟩ := by decide

/-- V1: SBC A,0xFF from 0x00 with carry, and SBC A,A. -/
theorem test_sbc_borrows :
    after (start (onlyA 0x00) 0x10 0 [] [0xDE, 0xFF]) = some ⟨onlyA 0x00, 0xF0, 0xC002, 0, 8⟩ ∧
    after (start (onlyA 0x5A) 0x10 0 [] [0x9F]) = some ⟨onlyA 0xFF, 0x70, 0xC001, 0, 4⟩ := by decide

/-- V1: AND A,0x0F from 0xF0; XOR A,A; OR A,0x0F. -/
theorem test_logic :
    after (start (onlyA 0xF0) 0x00 0 [] [0xE6, 0x0F]) = some ⟨onlyA 0x00, 0xA0, 0xC002, 0, 8⟩ ∧
    after (start (onlyA 0x5A) 0xF0 0 [] [0xAF]) = some ⟨onlyA 0x00, 0x80, 0xC001, 0, 4⟩ ∧
    after (start (onlyA 0x5A) 0xF0 0 [] [0xF6, 0x0F]) = some ⟨onlyA 0x5F, 0x00, 0xC002, 0, 8⟩ := by decide

/-- V1: CP A,0x40 from 0x3C keeps A; CP A,(HL) in the IO window compares with 0x00. -/
theorem test_cp_keeps_a :
    after (start (onlyA 0x3C) 0x00 0 [] [0xFE, 0x40]) = some ⟨onlyA 0x3C, 0x50, 0xC002, 0, 8⟩ ∧
    after (start (aHl 0x01 0xFF 0x00) 0x00 0 [] [0xBE]) = some ⟨aHl 0x01 0xFF 0x00, 0x40, 0xC001, 0, 8⟩ := by decide

/-- V1: AND A,(HL) on an unmapped address. -/
theorem test_alu_unmapped : latched (start (aHl 0xFF 0xE0 0x00) 0x10 0 [] [0xA6]) = some (.unmappedAccess 0xE000) := by decide

/-- V2: INC B from 0xFF and DEC B from 0x10 keep carry. -/
theorem test_inc_dec_keep_carry :
    after (start ⟨0, 0xFF, 0, 0, 0, 0, 0⟩ 0x10 0 [] [0x04]) = some ⟨⟨0, 0x00, 0, 0, 0, 0, 0⟩, 0xB0, 0xC001, 0, 4⟩ ∧
    after (start ⟨0, 0x10, 0, 0, 0, 0, 0⟩ 0x10 0 [] [0x05]) = some ⟨⟨0, 0x0F, 0, 0, 0, 0, 0⟩, 0x70, 0xC001, 0, 4⟩ := by decide

/-- V2: INC (HL) and DEC (HL) at 0xC100. -/
theorem test_inc_dec_memory :
    byteAfter (start (aHl 0 0xC1 0x00) 0x00 0 [(0xC100, 0xFF)] [0x34]) 0xC100 = some 0x00 ∧
    byteAfter (start (aHl 0 0xC1 0x00) 0x10 0 [] [0x35]) 0xC100 = some 0xFF := by decide

/-- V2: INC (HL) on ROM: the write is dropped, the flags are those of 0x00 + 1. -/
theorem test_inc_rom :
    after (start (aHl 0 0x20 0x00) 0x00 0 [] [0x34]) = some ⟨aHl 0 0x20 0x00, 0x00, 0xC001, 0, 12⟩ ∧
    byteAfter (start (aHl 0 0x20 0x00) 0x00 0 [] [0x34]) 0x2000 = some 0x00 := by decide

/-- V2: INC BC and DEC SP wrap and write no flag. -/
theorem test_inc_dec_word :
    after (start ⟨0, 0xFF, 0xFF, 0, 0, 0, 0⟩ 0xF0 0 [] [0x03]) = some ⟨onlyA 0, 0xF0, 0xC001, 0, 8⟩ ∧
    after (start (onlyA 0) 0x00 0 [] [0x3B]) = some ⟨onlyA 0, 0x00, 0xC001, 0xFFFF, 8⟩ := by decide

/-- V2: ADD HL,BC keeps z and clears n (D10); ADD HL,SP carries out of both bits. -/
theorem test_add_hl :
    after (start ⟨0, 0x06, 0x05, 0, 0, 0x8A, 0x23⟩ 0xC0 0 [] [0x09]) = some ⟨⟨0, 0x06, 0x05, 0, 0, 0x90, 0x28⟩, 0xA0, 0xC001, 0, 8⟩ ∧
    after (start (aHl 0 0xFF 0xFF) 0x40 1 [] [0x39]) = some ⟨onlyA 0, 0x30, 0xC001, 1, 8⟩ := by decide

/-- V3: LD B,C and LD D,0x9C keep the flags. -/
theorem test_ld_register :
    after (start ⟨0, 0x11, 0x22, 0, 0, 0, 0⟩ 0xF0 0 [] [0x41]) = some ⟨⟨0, 0x22, 0x22, 0, 0, 0, 0⟩, 0xF0, 0xC001, 0, 4⟩ ∧
    after (start (onlyA 0) 0x50 0 [] [0x16, 0x9C]) = some ⟨⟨0, 0, 0, 0x9C, 0, 0, 0⟩, 0x50, 0xC002, 0, 8⟩ := by decide

/-- V3: LD E,(HL), LD A,(BC), LD A,(DE) in the IO window, LD A,(C) in the IO window. -/
theorem test_ld_from_memory :
    after (start (aHl 0 0xC1 0x23) 0 0 [(0xC123, 0x77)] [0x5E]) = some ⟨⟨0, 0, 0, 0, 0x77, 0xC1, 0x23⟩, 0, 0xC001, 0, 8⟩ ∧
    after (start ⟨0, 0xC2, 0, 0, 0, 0, 0⟩ 0 0 [(0xC200, 0x12)] [0x0A]) = some ⟨⟨0x12, 0xC2, 0, 0, 0, 0, 0⟩, 0, 0xC001, 0, 8⟩ ∧
    after (start ⟨0x77, 0, 0, 0xFF, 0x10, 0, 0⟩ 0 0 [] [0x1A]) = some ⟨⟨0, 0, 0, 0xFF, 0x10, 0, 0⟩, 0, 0xC001, 0, 8⟩ ∧
    after (start ⟨0x77, 0, 0x10, 0, 0, 0, 0⟩ 0 0 [] [0xF2]) = some ⟨⟨0, 0, 0x10, 0, 0, 0, 0⟩, 0, 0xC001, 0, 8⟩ := by decide

/-- V3: LD (HL),B, LD (HL),0x99 into VRAM, LD (HL),A into ROM0, LD (BC),A, LD (DE),A. -/
theorem test_ld_to_memory :
    byteAfter (start ⟨0, 0x42, 0, 0, 0, 0xC1, 0x23⟩ 0 0 [] [0x70]) 0xC123 = some 0x42 ∧
    byteAfter (start (aHl 0 0x80 0x00) 0 0 [] [0x36, 0x99]) 0x8000 = some 0x99 ∧
    byteAfter (start (aHl 0x55 0x10 0x00) 0 0 [] [0x77]) 0x1000 = some 0x00 ∧
    byteAfter (start ⟨0x3C, 0xC2, 0x01, 0, 0, 0, 0⟩ 0 0 [] [0x02]) 0xC201 = some 0x3C ∧
    byteAfter (start ⟨0x3C, 0, 0, 0xFF, 0x80, 0, 0⟩ 0 0 [] [0x12]) 0xFF80 = some 0x3C := by decide

/-- V3: LD (HL),A on an unmapped address; LDH A,(0xFF). -/
theorem test_ld_unmapped :
    latched (start (aHl 0x55 0xA0 0x00) 0 0 [] [0x77]) = some (.unmappedAccess 0xA000) ∧
    latched (start (onlyA 0x11) 0 0 [] [0xF0, 0xFF]) = some (.unmappedAccess 0xFFFF) := by decide

/-- V3: the post-effects, at a carry into H and at both ends of the address space. -/
theorem test_ld_post_effect :
    after (start (aHl 0xAB 0xC1 0xFF) 0 0 [] [0x22]) = some ⟨aHl 0xAB 0xC2 0x00, 0, 0xC001, 0, 8⟩ ∧
    byteAfter (start (aHl 0xAB 0xC1 0xFF) 0 0 [] [0x22]) 0xC1FF = some 0xAB ∧
    after (start (aHl 0xCD 0xC2 0x00) 0 0 [] [0x32]) = some ⟨aHl 0xCD 0xC1 0xFF, 0, 0xC001, 0, 8⟩ ∧
    after (start (aHl 0 0xFF 0xFE) 0 0 [(0xFFFE, 0x66)] [0x2A]) = some ⟨aHl 0x66 0xFF 0xFF, 0, 0xC001, 0, 8⟩ ∧
    after (start (aHl 0x77 0x00 0x00) 0 0 [] [0x3A]) = some ⟨aHl 0x00 0xFF 0xFF, 0, 0xC001, 0, 8⟩ := by decide

/-- V3: the window and absolute forms: LDH (0x80),A; LDH (0x40),A into IO; LDH A,(0x85); LD (C),A; LD (0xC345),A; LD A,(0xC345). -/
theorem test_ld_window_absolute :
    byteAfter (start (onlyA 0x42) 0 0 [] [0xE0, 0x80]) 0xFF80 = some 0x42 ∧
    byteAfter (start (onlyA 0x42) 0 0 [] [0xE0, 0x40]) 0xFF40 = some 0x00 ∧
    after (start (onlyA 0) 0 0 [(0xFF85, 0x9A)] [0xF0, 0x85]) = some ⟨onlyA 0x9A, 0, 0xC002, 0, 12⟩ ∧
    byteAfter (start ⟨0x5A, 0, 0x90, 0, 0, 0, 0⟩ 0 0 [] [0xE2]) 0xFF90 = some 0x5A ∧
    byteAfter (start (onlyA 0x99) 0 0 [] [0xEA, 0x45, 0xC3]) 0xC345 = some 0x99 ∧
    after (start (onlyA 0) 0 0 [(0xC345, 0x31)] [0xFA, 0x45, 0xC3]) = some ⟨onlyA 0x31, 0, 0xC003, 0, 16⟩ := by decide

/-- V4: LD BC,0x1234, LD SP,HL and LD (0xC100),SP. -/
theorem test_ld_word :
    after (start (onlyA 0) 0xF0 0 [] [0x01, 0x34, 0x12]) = some ⟨⟨0, 0x12, 0x34, 0, 0, 0, 0⟩, 0xF0, 0xC003, 0, 12⟩ ∧
    after (start (aHl 0 0xD0 0x00) 0 0 [] [0xF9]) = some ⟨aHl 0 0xD0 0x00, 0, 0xC001, 0xD000, 8⟩ ∧
    byteAfter (start (onlyA 0) 0 0xFFF8 [] [0x08, 0x00, 0xC1]) 0xC100 = some 0xF8 ∧
    byteAfter (start (onlyA 0) 0 0xFFF8 [] [0x08, 0x00, 0xC1]) 0xC101 = some 0xFF := by decide

/-- V4: LD (0xFFFE),SP stores nothing when its second byte faults. -/
theorem test_ld_word_precise : latched (start (onlyA 0) 0 0x1234 [] [0x08, 0xFE, 0xFF]) = some (.unmappedAccess 0xFFFF) := by decide

/-- V4, S5: PUSH BC and POP HL. -/
theorem test_push_pop :
    after (start ⟨0, 0x12, 0x34, 0, 0, 0, 0⟩ 0 0xFFFE [] [0xC5]) = some ⟨⟨0, 0x12, 0x34, 0, 0, 0, 0⟩, 0, 0xC001, 0xFFFC, 16⟩ ∧
    byteAfter (start ⟨0, 0x12, 0x34, 0, 0, 0, 0⟩ 0 0xFFFE [] [0xC5]) 0xFFFD = some 0x12 ∧
    byteAfter (start ⟨0, 0x12, 0x34, 0, 0, 0, 0⟩ 0 0xFFFE [] [0xC5]) 0xFFFC = some 0x34 ∧
    after (start (onlyA 0) 0 0xFFFC [(0xFFFC, 0x34), (0xFFFD, 0x12)] [0xE1]) = some ⟨aHl 0 0x12 0x34, 0, 0xC001, 0xFFFE, 12⟩ := by
  decide

/-- V4: PUSH AF stores the packed flags low; POP AF drops the low nibble (D13). -/
theorem test_push_pop_af :
    byteAfter (start (onlyA 0x12) 0xB0 0xD000 [] [0xF5]) 0xCFFF = some 0x12 ∧
    byteAfter (start (onlyA 0x12) 0xB0 0xD000 [] [0xF5]) 0xCFFE = some 0xB0 ∧
    after (start (onlyA 0) 0 0xC100 [(0xC100, 0xFF), (0xC101, 0x9A)] [0xF1]) = some ⟨onlyA 0x9A, 0xF0, 0xC001, 0xC102, 12⟩ := by decide

/-- V4: stack faults: PUSH at SP = 0 and SP = 1, POP at SP = 0xFFFE. -/
theorem test_stack_faults :
    latched (start ⟨0, 0, 0, 1, 2, 0, 0⟩ 0 0x0000 [] [0xD5]) = some (.unmappedAccess 0xFFFF) ∧
    latched (start (aHl 0 1 2) 0 0x0001 [] [0xE5]) = some (.unmappedAccess 0xFFFF) ∧
    latched (start (onlyA 0) 0 0xFFFE [(0xFFFE, 0x77)] [0xC1]) = some (.unmappedAccess 0xFFFF) := by decide

/-- V5: JP 0x0150. -/
theorem test_jp : after (start (onlyA 0) 0 0 [] [0xC3, 0x50, 0x01]) = some ⟨onlyA 0, 0, 0x0150, 0, 16⟩ := by decide

/-- V5: JP Z,0x0200 taken and not taken. -/
theorem test_jp_condition :
    after (start (onlyA 0) 0x80 0 [] [0xCA, 0x00, 0x02]) = some ⟨onlyA 0, 0x80, 0x0200, 0, 16⟩ ∧
    after (start (onlyA 0) 0x00 0 [] [0xCA, 0x00, 0x02]) = some ⟨onlyA 0, 0x00, 0xC003, 0, 12⟩ := by decide

/-- V5: JP HL. -/
theorem test_jp_hl : after (start (aHl 0 0xC1 0x23) 0 0 [] [0xE9]) = some ⟨aHl 0 0xC1 0x23, 0, 0xC123, 0, 4⟩ := by decide

/-- V5: JR -128 and JR +127. -/
theorem test_jr_signed :
    after (start (onlyA 0) 0 0 [] [0x18, 0x80]) = some ⟨onlyA 0, 0, 0xBF82, 0, 12⟩ ∧
    after (start (onlyA 0) 0 0 [] [0x18, 0x7F]) = some ⟨onlyA 0, 0, 0xC081, 0, 12⟩ := by decide

/-- V5: JR NZ,-5 taken and not taken. -/
theorem test_jr_condition :
    after (start (onlyA 0) 0x00 0 [] [0x20, 0xFB]) = some ⟨onlyA 0, 0x00, 0xBFFD, 0, 12⟩ ∧
    after (start (onlyA 0) 0x80 0 [] [0x20, 0xFB]) = some ⟨onlyA 0, 0x80, 0xC002, 0, 8⟩ := by decide

/-- S6: the displacement of a JR that is not taken is not read; of one that is taken it is. -/
theorem test_jr_not_taken_reads_nothing :
    after ({ start (onlyA 0) 0x80 0 [] [] with pc := 0xDFFF }.poke 0xDFFF 0x20) = some ⟨onlyA 0, 0x80, 0xE001, 0, 8⟩ ∧
    latched ({ start (onlyA 0) 0x00 0 [] [] with pc := 0xDFFF }.poke 0xDFFF 0x20) = some (.unmappedAccess 0xE000) := by decide

/-- V5: CALL 0x0200 pushes 0xC003. -/
theorem test_call :
    after (start (onlyA 0) 0 0xFFFE [] [0xCD, 0x00, 0x02]) = some ⟨onlyA 0, 0, 0x0200, 0xFFFC, 24⟩ ∧
    byteAfter (start (onlyA 0) 0 0xFFFE [] [0xCD, 0x00, 0x02]) 0xFFFD = some 0xC0 ∧
    byteAfter (start (onlyA 0) 0 0xFFFE [] [0xCD, 0x00, 0x02]) 0xFFFC = some 0x03 := by decide

/-- V5: CALL C,0x0200 not taken; RET NZ not taken. -/
theorem test_call_ret_not_taken :
    after (start (onlyA 0) 0 0xFFFE [] [0xDC, 0x00, 0x02]) = some ⟨onlyA 0, 0, 0xC003, 0xFFFE, 12⟩ ∧
    after (start (onlyA 0) 0x80 0xFFFC [] [0xC0]) = some ⟨onlyA 0, 0x80, 0xC001, 0xFFFC, 8⟩ := by decide

/-- V5: RET and RET Z. -/
theorem test_ret :
    after (start (onlyA 0) 0 0xFFFC [(0xFFFC, 0x06)] [0xC9]) = some ⟨onlyA 0, 0, 0x0006, 0xFFFE, 16⟩ ∧
    after (start (onlyA 0) 0x80 0xFFFC [(0xFFFC, 0x34), (0xFFFD, 0x12)] [0xC8]) = some ⟨onlyA 0, 0x80, 0x1234, 0xFFFE, 20⟩ := by
  decide

/-- V6: RLCA clears z on a zero result; RLA, RRCA, RRA. -/
theorem test_accumulator_rotates :
    after (start (onlyA 0x00) 0xF0 0 [] [0x07]) = some ⟨onlyA 0x00, 0x00, 0xC001, 0, 4⟩ ∧
    after (start (onlyA 0x95) 0x10 0 [] [0x17]) = some ⟨onlyA 0x2B, 0x10, 0xC001, 0, 4⟩ ∧
    after (start (onlyA 0x3B) 0x00 0 [] [0x0F]) = some ⟨onlyA 0x9D, 0x10, 0xC001, 0, 4⟩ ∧
    after (start (onlyA 0x81) 0x00 0 [] [0x1F]) = some ⟨onlyA 0x40, 0x10, 0xC001, 0, 4⟩ := by decide

/-- V6: RLC B, RL C, RRC A, RR D. -/
theorem test_prefixed_rotates :
    after (start ⟨0, 0x85, 0, 0, 0, 0, 0⟩ 0x00 0 [] [0xCB, 0x00]) = some ⟨⟨0, 0x0B, 0, 0, 0, 0, 0⟩, 0x10, 0xC002, 0, 8⟩ ∧
    after (start ⟨0, 0, 0x80, 0, 0, 0, 0⟩ 0x00 0 [] [0xCB, 0x11]) = some ⟨⟨0, 0, 0x00, 0, 0, 0, 0⟩, 0x90, 0xC002, 0, 8⟩ ∧
    after (start (onlyA 0x01) 0x00 0 [] [0xCB, 0x0F]) = some ⟨onlyA 0x80, 0x10, 0xC002, 0, 8⟩ ∧
    after (start ⟨0, 0, 0, 0x8A, 0, 0, 0⟩ 0x10 0 [] [0xCB, 0x1A]) = some ⟨⟨0, 0, 0, 0xC5, 0, 0, 0⟩, 0x00, 0xC002, 0, 8⟩ := by
  decide

/-- V6: RR (HL) in the IO window reads 0x00 and writes nothing. -/
theorem test_rotate_io :
    after (start (aHl 0 0xFF 0x10) 0x10 0 [] [0xCB, 0x1E]) = some ⟨aHl 0 0xFF 0x10, 0x00, 0xC002, 0, 16⟩ ∧
    byteAfter (start (aHl 0 0xFF 0x10) 0x10 0 [] [0xCB, 0x1E]) 0xFF10 = some 0x00 := by decide

/-- V6: BIT 7,H keeps c and clears h (C7); BIT 0,(HL). -/
theorem test_bit :
    after (start (aHl 0 0x80 0) 0x70 0 [] [0xCB, 0x7C]) = some ⟨aHl 0 0x80 0, 0x10, 0xC002, 0, 8⟩ ∧
    after (start (aHl 0 0xC1 0x00) 0x10 0 [(0xC100, 0x01)] [0xCB, 0x46]) = some ⟨aHl 0 0xC1 0x00, 0x10, 0xC002, 0, 12⟩ := by
  decide

/-- V7: NOP keeps the flags; a fetch from the IO window reads NOP; PC wraps past the last mapped address. -/
theorem test_nop :
    after (start (onlyA 0) 0xF0 0 [] [0x00]) = some ⟨onlyA 0, 0xF0, 0xC001, 0, 4⟩ ∧
    after { State.reset with pc := 0xFF00 } = some ⟨onlyA 0, 0, 0xFF01, 0, 4⟩ ∧
    after { State.reset with pc := 0xFFFE } = some ⟨onlyA 0, 0, 0xFFFF, 0, 4⟩ := by decide

/-- V7: HALT, and a step after it. -/
theorem test_halt :
    step (start (onlyA 0) 0 0 [] [0x76]) =
      .next { start (onlyA 0) 0 0 [] [0x76] with run := .halted, pc := 0xC001, clk := 4, gpu := ⟨.hblank, 4, 0⟩ } ∧
    step { start (onlyA 0) 0 0 [] [0x76] with run := .halted } = .next { start (onlyA 0) 0 0 [] [0x76] with run := .halted } :=
  ⟨rfl, rfl⟩

/-- V7: UNKNOWN in both tables, and before its operand is fetched. -/
theorem test_unknown :
    latched (start (onlyA 0) 0 0 [] [0x10]) = some (.unknownOpcode (.base 0x10) 0xC000) ∧
    latched (start (onlyA 0) 0 0 [] [0xCB, 0x30]) = some (.unknownOpcode (.extended 0x30) 0xC000) ∧
    latched ({ State.reset with pc := 0xDFFF }.poke 0xDFFF 0x10) = some (.unknownOpcode (.base 0x10) 0xDFFF) := by decide

/-- V7: fetch faults: the opcode, the second opcode byte, the immediate. -/
theorem test_fetch_faults :
    latched { State.reset with pc := 0x4000 } = some (.unmappedAccess 0x4000) ∧
    latched ({ State.reset with pc := 0x3FFF }.poke 0x3FFF 0xCB) = some (.unmappedAccess 0x4000) ∧
    latched ({ State.reset with pc := 0xDFFF }.poke 0xDFFF 0x3E) = some (.unmappedAccess 0xE000) := by decide

/-- S7: the corner rows of `Advance`. -/
theorem test_advance :
    Gpu.advance ⟨.oamScan, 79, 0⟩ 1 = ⟨.vramScan, 0, 0⟩ ∧ Gpu.advance ⟨.oamScan, 76, 5⟩ 24 = ⟨.vramScan, 0, 5⟩ ∧
    Gpu.advance ⟨.oamScan, 0, 0⟩ 600 = ⟨.vramScan, 0, 0⟩ ∧ Gpu.advance ⟨.vblank, 452, 153⟩ 4 = ⟨.oamScan, 0, 0⟩ ∧
    Gpu.advance ⟨.vblank, 452, 152⟩ 4 = ⟨.vblank, 0, 153⟩ ∧ Gpu.advance ⟨.hblank, 200, 142⟩ 4 = ⟨.oamScan, 0, 143⟩ := by decide

/-- S7: the pulses. -/
theorem test_pulses :
    Gpu.pulse ⟨.vramScan, 0, 0⟩ 172 = some .scanlineDone ∧ Gpu.pulse ⟨.hblank, 0, 143⟩ 204 = some .frameComplete ∧
    Gpu.pulse ⟨.hblank, 0, 0⟩ 204 = none := by decide

/-- The report of a step (R253): ADD A,0x03 of P1. -/
theorem test_report :
    (start (onlyA 0x05) 0 0 [] [0xC6, 0x03]).report = some ⟨some .add_A_d8, mnemonicOf .add_A_d8, 2, 8, none⟩ := by decide

/-- A word of the table placed at reset's PC runs there: LD A,(HL+) from the boot overlay, and RL C. -/
theorem test_fetch_word :
    (State.reset.withFetchWord 8 0x2A).fetchInstr = .ok .ld_A_indHLinc ∧
    (State.reset.withFetchWord 16 0xCB11).fetchInstr = .ok .rl_C ∧
    after (State.reset.withFetchWord 8 0x2A) = some ⟨aHl 0x2A 0x00 0x01, 0, 0x0001, 0, 8⟩ := by decide

/-! ## Every obligation's hypotheses can be met: a witness per clause, at the boundary values of its range -/

/-- A state at 0xC000 with these bytes there, SP in the middle of WRAM, and HL = 0xC100. -/
def at0 (bytes : List Byte) : State := start (aHl 0x12 0xC1 0x00) 0x00 0xD000 [] bytes

/-- The same with HL at an unmapped address. -/
def atHole (bytes : List Byte) : State := start (aHl 0x12 0xE0 0x00) 0x00 0xD000 [] bytes

/-- The last byte of WRAM holds `op`, PC is there, and the next address is unmapped. -/
def atEnd (op : Byte) : State := { State.reset with pc := 0xDFFF }.poke 0xDFFF op

/-- The last two bytes of WRAM hold `op` and 0x34, PC is at the first. -/
def atEnd2 (op : Byte) : State := ({ State.reset with pc := 0xDFFE }.poke 0xDFFE op).poke 0xDFFF 0x34

theorem witness_StepRunsTheDecodedInstruction :
    ((at0 [0x80]).fault = none ∧ (at0 [0x80]).run = .running ∧ (at0 [0x80]).memRead (at0 [0x80]).pc = .ok 0x80) ∧
    ((at0 [0xCB, 0x11]).fault = none ∧ (at0 [0xCB, 0x11]).run = .running ∧
      (at0 [0xCB, 0x11]).memRead (at0 [0xCB, 0x11]).pc = .ok 0xCB ∧
      (at0 [0xCB, 0x11]).memRead ((at0 [0xCB, 0x11]).pc + 1) = .ok 0x11) := by decide

/-- The bytes of an instruction lie at PC. -/
theorem witness_StepRunsTheEncodedInstruction :
    ∀ i ∈ [Insn.mk .nop .none, ⟨.rl_C, .none⟩, ⟨.ld_B_d8, .byte 0xFF⟩, ⟨.ld_SP_d16, .word 0xFFFE⟩],
      i.wf = true ∧ (at0 (encode i)).fault = none ∧ (at0 (encode i)).run = .running ∧
      ∀ k v, (encode i)[k]? = some v → (at0 (encode i)).memRead ((at0 (encode i)).pc + BitVec.ofNat 16 k) = .ok v := by
  intro i hi
  simp only [List.mem_cons, List.not_mem_nil, or_false] at hi
  rcases hi with rfl | rfl | rfl | rfl <;>
    refine ⟨by decide, by decide, by decide, fun k v h => ?_⟩ <;>
    rcases k with _ | _ | _ | k <;> cases h <;> decide

theorem witness_FaultsLatchAndStop :
    (let s := { State.reset with pc := 0xFFFF }; s.fault = none ∧ s.run = .running ∧ ¬ s.mapped s.pc) ∧
    (let s := { State.reset with pc := 0x3FFF }.poke 0x3FFF 0xCB
     s.fault = none ∧ s.run = .running ∧ s.memRead s.pc = .ok 0xCB ∧ ¬ s.mapped (s.pc + 1)) ∧
    (∃ t, step { State.reset with pc := 0x4000 } = .next t ∧ t.fault = some (.unmappedAccess 0x4000)) ∧
    { State.reset with fault := some (.unmappedAccess 0xFFFF) }.fault = some (.unmappedAccess 0xFFFF) :=
  ⟨by decide, by decide, ⟨_, rfl, rfl⟩, rfl⟩

theorem witness_HaltedStepChangesNothing :
    { State.reset with run := .halted }.fault = none ∧ { State.reset with run := .halted }.run = .halted ∧
    { State.reset with run := .halted }.gpu.ok = true ∧ Gpu.ok ⟨.vblank, 455, 153⟩ = true := by decide

/-- A state without a fault for each of the three outcomes. -/
theorem witness_StepRaisesOnlyTwoFaults :
    (at0 [0x00]).fault = none ∧ after (at0 [0x00]) ≠ none ∧ (atHole [0x86]).fault = none ∧
    latched (atHole [0x86]) = some (.unmappedAccess 0xE000) ∧ (at0 [0xDD]).fault = none ∧
    latched (at0 [0xDD]) = some (.unknownOpcode (.base 0xDD) 0xC000) := by decide

/-- Images of the right length are taken. -/
theorem construct_next {k : Construction} (hb : k.bootImage.length = bootSize)
    (hr : k.romImage.length = spanSize k.cfg.regions.rom0) : construct k = .next k.state := by
  simp only [construct, hb, hr, ne_eq, not_true_eq_false, if_false]

theorem witness_OnlyHaltLeavesRunning :
    (∃ t, construct { defaultConstruction with snapshot := some ⟨1, 2, 3, 4, 5, 6, 7, 8, 9, 10⟩ } = .next t) ∧
    (∃ t, step { State.reset with run := .halted } = .next t) ∧
    (∃ t, step (at0 [0x76]) = .next t ∧ (at0 [0x76]).run = .running ∧ t.run = .halted) :=
  ⟨⟨_, construct_next List.length_replicate List.length_replicate⟩, ⟨_, rfl⟩,
    ⟨_, rfl, rfl, rfl⟩⟩

theorem witness_StepKeepsImagesAndParameters : ∃ t, step (at0 [0x77]) = .next t := ⟨_, rfl⟩

theorem witness_EveryInstructionAccountsItsCost :
    (∃ t, exec .nop State.reset = .next t) ∧ (∃ t, exec .jr_NZ_e8 (at0 [0x20, 0x05]) = .next t) := ⟨⟨_, rfl⟩, ⟨_, rfl⟩⟩

theorem witness_TimingReachesNothingElse :
    untimed (at0 [0x00]) =
      untimed { at0 [0x00] with clk := 7, gpu := ⟨.vblank, 3, 150⟩, cfg := { defaultConfig with clkW := 8 } } := by decide

theorem witness_StepKeepsInvariant :
    State.reset.Inv ∧ (∃ t, step State.reset = .next t) ∧ (at0 [0x77]).Inv ∧ (∃ t, step (at0 [0x77]) = .next t) :=
  ⟨by decide, ⟨_, rfl⟩, by decide, ⟨_, rfl⟩⟩

theorem witness_ConstructionHasInvariant :
    ∃ t, construct { defaultConstruction with ramInit := ⟨[0x01], [0x02], [0x03]⟩ } = .next t :=
  ⟨_, construct_next List.length_replicate List.length_replicate⟩

theorem witness_ConstructionTakesItsInputs :
    (let k := { defaultConstruction with snapshot := some ⟨1, 2, 3, 4, 5, 6, 7, 0xFF, 9, 10⟩ }
     k.bootImage.length = 256 ∧ k.romImage.length = spanSize k.cfg.regions.rom0 ∧
       k.snapshot = some ⟨1, 2, 3, 4, 5, 6, 7, 0xFF, 9, 10⟩) ∧
    (defaultConstruction.bootImage.length = 256 ∧
      defaultConstruction.romImage.length = spanSize defaultConstruction.cfg.regions.rom0 ∧ defaultConstruction.snapshot = none) ∧
    { defaultConstruction with bootImage := [0x76] }.bootImage[0]? = some 0x76 ∧ 0x7E < spanSize defaultRegions.hram ∧
    { defaultConstruction with bootImage := [] }.bootImage.length ≠ 256 ∧
    (let k := { defaultConstruction with romImage := [] }
     k.bootImage.length = 256 ∧ k.romImage.length ≠ spanSize k.cfg.regions.rom0) :=
  ⟨⟨List.length_replicate, List.length_replicate, rfl⟩, ⟨List.length_replicate, List.length_replicate, rfl⟩, rfl, by decide,
    by decide, ⟨List.length_replicate, by decide⟩⟩

theorem witness_DispatchIsARangeMatch :
    regionsOk State.reset.cfg.regions = true ∧ State.reset.region 0x0000 = some .boot ∧ State.reset.region 0x00FF = some .boot ∧
    State.reset.region 0x0100 = some .rom0 ∧ State.reset.region 0x3FFF = some .rom0 ∧ State.reset.region 0x8000 = some .vram ∧
    State.reset.region 0x9FFF = some .vram ∧ State.reset.region 0xC000 = some .wram ∧ State.reset.region 0xDFFF = some .wram ∧
    State.reset.region 0xFF00 = some .io ∧ State.reset.region 0xFF7F = some .io ∧ State.reset.region 0xFF80 = some .hram ∧
    State.reset.region 0xFFFE = some .hram ∧ { State.reset with bootActive := false }.region 0x0000 = some .rom0 := by decide

theorem witness_DefaultUnmappedAddresses :
    State.reset.cfg.regions = defaultRegions ∧
    ([0x4000, 0x7FFF, 0xA000, 0xBFFF, 0xE000, 0xFEFF, 0xFFFF].all fun a => decide (State.reset.region a = none)) = true ∧
    ([0x3FFF, 0x8000, 0x9FFF, 0xC000, 0xDFFF, 0xFF00, 0xFFFE].all fun a => decide (State.reset.mapped a)) = true := by decide

theorem witness_AccessesFollowDispatch :
    State.reset.region 0x00FF = some .boot ∧ State.reset.region 0x3FFF = some .rom0 ∧ State.reset.region 0x9FFF = some .vram ∧
    State.reset.region 0xDFFF = some .wram ∧ State.reset.region 0xFF7F = some .io ∧ State.reset.region 0xFFFE = some .hram ∧
    State.reset.region 0xFFFF = none := by decide

theorem witness_WriteThenReadAnyAddress :
    State.reset.arraysOk = true ∧ State.reset.mapped 0x0000 ∧ State.reset.mapped 0xC000 ∧ State.reset.mapped 0xFFFE := by decide

theorem witness_StackPrimitives :
    (at0 []).arraysOk = true ∧ (at0 []).mapped ((at0 []).sp - 1) ∧ (at0 []).mapped ((at0 []).sp - 2) ∧
    (at0 []).isRam ((at0 []).sp - 1) ∧ (at0 []).isRam ((at0 []).sp - 2) ∧ StackWord (at0 []) 0x0000 :=
  ⟨by decide, by decide, by decide, by decide, by decide, ⟨0x00, 0x00, by decide, by decide, by decide⟩⟩

theorem witness_PushBcPopHlCopies :
    State.arraysOk { State.reset with sp := 0xFFFF } = true ∧ State.isRam { State.reset with sp := 0xFFFF } (0xFFFF - 1) ∧
    State.isRam { State.reset with sp := 0xFFFF } (0xFFFF - 2) := by decide

theorem witness_AdvanceKeepsGraphicsInvariants :
    Gpu.ok ⟨.oamScan, 79, 143⟩ = true ∧ Gpu.ok ⟨.vramScan, 171, 0⟩ = true ∧ Gpu.ok ⟨.hblank, 203, 143⟩ = true ∧
    Gpu.ok ⟨.vblank, 455, 144⟩ = true ∧ Gpu.ok ⟨.vblank, 0, 153⟩ = true := by decide

theorem witness_DecodeManyOfEncodings :
    ∀ i ∈ [Insn.mk .ld_HL_d16 (.word 0xC000), ⟨.jr_NZ_e8, .byte 0xFC⟩, ⟨.bit_7_indHL, .none⟩, ⟨.unknown 0xFF, .none⟩,
      ⟨.unknownCb 0x80, .none⟩], i.wf = true := by decide

theorem witness_EveryDecodingIsAnEncoding :
    decodeInsn [0xCD, 0x10, 0x00, 0x76] = .ok (⟨.call_a16, .word 0x0010⟩, [0x76]) ∧
    decodeInsn [0xFD] = .ok (⟨.unknown 0xFD, .none⟩, []) := by decide

theorem witness_UnknownOpcodesFault : (0x10 : Byte) ≠ 0xCB ∧ (0xFF : Byte) ∈ unknownBase := by decide

/-- The operand of each arithmetic form can be read, and cannot be. It serves every statement made with `AluDoes`. -/
theorem witness_AluDoes :
    (aluForm (at0 []) (.reg .A)).1 = .ok 0x12 ∧ (aluForm (at0 []) .indHL).1 = .ok 0x00 ∧
    (aluForm (at0 [0xC6, 0xFF]) .d8).1 = .ok 0xFF ∧
    (aluForm (atHole []) .indHL).1 = .error (.unmappedAccess 0xE000) ∧
    (aluForm (atEnd 0xC6) .d8).1 = .error (.unmappedAccess 0xE000) := by decide

theorem witness_CarryCompletesTheResult :
    (aluForm (at0 []) (.reg .A)).1 = .ok 0x12 ∧ (∃ t, exec (Instr.alu .adc (.reg .A)) (at0 []) = .next t) ∧
    (∃ t, exec (Instr.alu .sbc (.reg .A)) (at0 []) = .next t) := ⟨by decide, ⟨_, rfl⟩, ⟨_, rfl⟩⟩

/-- The byte at HL can be read in read-write memory, in the IO window and in ROM, and cannot be. It serves the (HL) clauses of
`IncOfAByte`, `DecOfAByte`, `PrefixedRotates` and `BitTests`. -/
theorem witness_IncDecDoes :
    (at0 []).arraysOk = true ∧ (at0 []).memRead (wordOf (at0 []).regs.h (at0 []).regs.l) = .ok 0x00 ∧
    (start (aHl 0 0xFF 0x10) 0 0 [] []).memRead (wordOf 0xFF 0x10) = .ok 0x00 ∧
    (start (aHl 0 0x20 0x00) 0 0 [] []).memRead (wordOf 0x20 0x00) = .ok 0x00 ∧
    (atHole []).memRead (wordOf (atHole []).regs.h (atHole []).regs.l) = .error (.unmappedAccess 0xE000) := by decide

/-- Immediates can be read, and cannot be, at the first and at the second byte. It serves every clause about an immediate. -/
theorem witness_Immediates :
    (at0 [0xE0, 0x85]).memRead ((at0 [0xE0, 0x85]).pc + 1) = .ok 0x85 ∧
    (atEnd 0xE0).memRead ((atEnd 0xE0).pc + 1) = .error (.unmappedAccess 0xE000) ∧
    ImmWord (at0 [0xC3, 0x50, 0x01]) 0x0150 ∧ ImmWordFault (atEnd 0xC3) (.unmappedAccess 0xE000) ∧
    ImmWordFault (atEnd2 0xC3) (.unmappedAccess 0xE000) :=
  ⟨by decide, by decide, ⟨0x50, 0x01, by decide, by decide, by decide⟩, .inl (by decide), .inr ⟨0x34, by decide, by decide⟩⟩

theorem witness_MemoryOperandAddresses :
    (at0 [0xF0, 0xFF]).memRead ((at0 [0xF0, 0xFF]).pc + 1) = .ok 0xFF ∧
    (atEnd 0xF0).memRead ((atEnd 0xF0).pc + 1) = .error (.unmappedAccess 0xE000) ∧
    ImmWord (at0 [0xFA, 0xFF, 0xFF]) 0xFFFF ∧ ImmWordFault (atEnd2 0xFA) (.unmappedAccess 0xE000) :=
  ⟨by decide, by decide, ⟨0xFF, 0xFF, by decide, by decide, by decide⟩, .inr ⟨0x34, by decide, by decide⟩⟩

theorem witness_RegisterLoads :
    (at0 [0x06, 0xFF]).memRead ((at0 [0x06, 0xFF]).pc + 1) = .ok 0xFF ∧
    (atEnd 0x06).memRead ((atEnd 0x06).pc + 1) = .error (.unmappedAccess 0xE000) := by decide

theorem witness_LoadsFromMemory :
    (⟨.ld_A_inda16, .A, .inda16, 3, defaultCycles.ldAA16⟩ : MemoryForm) ∈ memoryLoads defaultCycles ∧
    (at0 [0xFA, 0xFE, 0xFF]).effAddr .inda16 = .ok 0xFFFE ∧ (at0 [0xFA, 0xFE, 0xFF]).memRead 0xFFFE = .ok 0x00 ∧
    (atEnd 0xFA).effAddr .inda16 = .error (.unmappedAccess 0xE000) ∧
    (at0 [0xF0, 0xFF]).effAddr .inda8 = .ok 0xFFFF ∧ ¬ (at0 [0xF0, 0xFF]).mapped 0xFFFF := by decide

theorem witness_StoresToMemory :
    (⟨.ld_indHLinc_A, .A, .indHLinc, 1, defaultCycles.ldHliA⟩ : MemoryForm) ∈ memoryStores defaultCycles ∧
    (at0 [0x22]).arraysOk = true ∧ (at0 [0x22]).effAddr .indHLinc = .ok 0xC100 ∧ (at0 [0x22]).mapped 0xC100 ∧
    (atEnd 0xEA).effAddr .inda16 = .error (.unmappedAccess 0xE000) ∧
    (atHole [0x22]).effAddr .indHLinc = .ok 0xE000 ∧ ¬ (atHole [0x22]).mapped 0xE000 ∧
    (at0 [0x36, 0x99]).arraysOk = true ∧ (at0 [0x36, 0x99]).memRead ((at0 [0x36, 0x99]).pc + 1) = .ok 0x99 ∧
    (at0 [0x36, 0x99]).mapped (wordOf 0xC1 0x00) ∧
    (atEnd 0x36).memRead ((atEnd 0x36).pc + 1) = .error (.unmappedAccess 0xE000) ∧
    (atHole [0x36, 0x99]).memRead ((atHole [0x36, 0x99]).pc + 1) = .ok 0x99 ∧ ¬ (atHole [0x36, 0x99]).mapped (wordOf 0xE0 0x00) := by
  decide

theorem witness_WordLoads : ImmWord (at0 [0x31, 0xFE, 0xFF]) 0xFFFE ∧ ImmWordFault (atEnd2 0x31) (.unmappedAccess 0xE000) :=
  ⟨⟨0xFE, 0xFF, by decide, by decide, by decide⟩, .inr ⟨0x34, by decide, by decide⟩⟩

theorem witness_StoreOfSp :
    ((at0 [0x08, 0x00, 0xC1]).arraysOk = true ∧ ImmWord (at0 [0x08, 0x00, 0xC1]) 0xC100 ∧
      (at0 [0x08, 0x00, 0xC1]).mapped 0xC100 ∧ (at0 [0x08, 0x00, 0xC1]).mapped (0xC100 + 1)) ∧
    ImmWordFault (atEnd2 0x08) (.unmappedAccess 0xE000) ∧
    (ImmWord (at0 [0x08, 0xFF, 0xFF]) 0xFFFF ∧ ¬ (at0 [0x08, 0xFF, 0xFF]).mapped 0xFFFF) ∧
    (ImmWord (at0 [0x08, 0xFE, 0xFF]) 0xFFFE ∧ (at0 [0x08, 0xFE, 0xFF]).mapped 0xFFFE ∧
      ¬ (at0 [0x08, 0xFE, 0xFF]).mapped (0xFFFE + 1)) :=
  ⟨⟨by decide, ⟨0x00, 0xC1, by decide, by decide, by decide⟩, by decide, by decide⟩, .inr ⟨0x34, by decide, by decide⟩,
    ⟨⟨0xFF, 0xFF, by decide, by decide, by decide⟩, by decide⟩,
    ⟨⟨0xFE, 0xFF, by decide, by decide, by decide⟩, by decide, by decide⟩⟩

/-- The three cases of a push: both bytes mapped; SP = 0, so 0xFFFF is hit first; SP = 1, so the high byte is mapped and the low one
is not. It serves PUSH and CALL. -/
theorem witness_PushDoes :
    ((at0 []).arraysOk = true ∧ (at0 []).mapped ((at0 []).sp - 1) ∧ (at0 []).mapped ((at0 []).sp - 2)) ∧
    ¬ State.reset.mapped (State.reset.sp - 1) ∧
    (State.mapped { State.reset with sp := 1 } (1 - 1) ∧ ¬ State.mapped { State.reset with sp := 1 } (1 - 2)) := by decide

theorem witness_PopLoadsAWord :
    ((at0 []).memRead (at0 []).sp = .ok 0x00 ∧ (at0 []).memRead ((at0 []).sp + 1) = .ok 0x00) ∧
    StackFault { State.reset with sp := 0xFFFF } (.unmappedAccess 0xFFFF) ∧
    StackFault { State.reset with sp := 0xFFFE } (.unmappedAccess 0xFFFF) :=
  ⟨by decide, .inl (by decide), .inr ⟨0x00, by decide, by decide⟩⟩

/-- Every condition holds in some state and fails in some state whose immediate can be read. -/
theorem witness_Conditions :
    (at0 [0xC2, 0x00, 0x02]).flags.holds .NZ = true ∧ (at0 [0xD2, 0x00, 0x02]).flags.holds .NC = true ∧
    (at0 [0xCA, 0x00, 0x02]).flags.holds .Z = false ∧ (at0 [0xDA, 0x00, 0x02]).flags.holds .C = false ∧
    ImmWord (at0 [0xC2, 0x00, 0x02]) 0x0200 :=
  ⟨by decide, by decide, by decide, by decide, ⟨0x00, 0x02, by decide, by decide, by decide⟩⟩

theorem witness_AbsoluteJumps :
    (ImmWord (at0 [0xC2, 0xFF, 0xFF]) 0xFFFF ∧ (at0 [0xC2, 0xFF, 0xFF]).flags.holds .NZ = true) ∧
    (ImmWordFault (atEnd2 0xC2) (.unmappedAccess 0xE000) ∧ (atEnd2 0xC2).flags.holds .NZ = true) ∧
    (at0 [0xCA, 0xFF, 0xFF]).flags.holds .Z = false :=
  ⟨⟨⟨0xFF, 0xFF, by decide, by decide, by decide⟩, by decide⟩, ⟨.inr ⟨0x34, by decide, by decide⟩, by decide⟩, by decide⟩

theorem witness_RelativeJumps :
    ((at0 [0x20, 0x80]).memRead ((at0 [0x20, 0x80]).pc + 1) = .ok 0x80 ∧ (at0 [0x20, 0x80]).flags.holds .NZ = true) ∧
    ((at0 [0x20, 0x7F]).memRead ((at0 [0x20, 0x7F]).pc + 1) = .ok 0x7F) ∧
    ((atEnd 0x20).memRead ((atEnd 0x20).pc + 1) = .error (.unmappedAccess 0xE000) ∧ (atEnd 0x20).flags.holds .NZ = true) ∧
    (atEnd 0x28).flags.holds .Z = false := by decide

theorem witness_CallsPushTheReturnAddress :
    (ImmWord (at0 [0xC4, 0x00, 0x02]) 0x0200 ∧ (at0 [0xC4, 0x00, 0x02]).flags.holds .NZ = true ∧
      (at0 [0xC4, 0x00, 0x02]).arraysOk = true ∧ (at0 [0xC4, 0x00, 0x02]).mapped (0xD000 - 1) ∧
      (at0 [0xC4, 0x00, 0x02]).mapped (0xD000 - 2)) ∧
    (ImmWordFault (atEnd2 0xC4) (.unmappedAccess 0xE000) ∧ (atEnd2 0xC4).flags.holds .NZ = true) ∧
    (at0 [0xCC, 0x00, 0x02]).flags.holds .Z = false ∧
    (ImmWord State.reset 0x0000 ∧ ¬ State.reset.mapped (State.reset.sp - 1)) ∧
    (ImmWord { State.reset with sp := 1 } 0x0000 ∧ State.mapped { State.reset with sp := 1 } (1 - 1) ∧
      ¬ State.mapped { State.reset with sp := 1 } (1 - 2)) :=
  ⟨⟨⟨0x00, 0x02, by decide, by decide, by decide⟩, by decide, by decide, by decide, by decide⟩,
    ⟨.inr ⟨0x34, by decide, by decide⟩, by decide⟩, by decide, ⟨⟨0x00, 0x00, by decide, by decide, by decide⟩, by decide⟩,
    ⟨⟨0x00, 0x00, by decide, by decide, by decide⟩, by decide, by decide⟩⟩

theorem witness_ReturnsPopPc :
    (StackWord (at0 [0xC0]) 0x0000 ∧ (at0 [0xC0]).flags.holds .NZ = true) ∧
    (StackFault { State.reset with sp := 0xFFFE } (.unmappedAccess 0xFFFF) ∧
      { State.reset with sp := 0xFFFE }.flags.holds .NC = true) ∧
    (at0 [0xC8]).flags.holds .Z = false :=
  ⟨⟨⟨0x00, 0x00, by decide, by decide, by decide⟩, by decide⟩, ⟨.inr ⟨0x00, by decide, by decide⟩, by decide⟩, by decide⟩


end Sys2Proof.Tests
end

section
/-! SUPPORT for the statements of 10_state.md: what a step keeps, when construction succeeds, the bits of the packed flags byte, and the
claims' byte arithmetic as the model's byte operations. -/

namespace Sys2Proof.Machine

/-! ## The graphics unit (R272 to R275, R278) -/

/-- Where the counter has just restarted, R278 says only which lines the mode admits. -/
theorem Gpu.ok_zero_iff (m : GpuMode) (line : Nat) :
    Gpu.ok ⟨m, 0, line⟩ = true ↔ if m = .vblank then 144 ≤ line ∧ line ≤ 153 else line < 144 := by
  cases m <;> simp [Gpu.ok_iff, GpuMode.threshold]

/-- Below the threshold only the counter moves; at it the counter restarts, and the new mode admits the new line. -/
theorem Gpu.advance_ok {g : Gpu} (n : Nat) (h : g.ok = true) : (g.advance n).ok = true := by
  obtain ⟨mode, ctr, line⟩ := g
  obtain ⟨-, hvblank, hvisible⟩ := (Gpu.ok_iff _).mp h
  by_cases hlt : ctr + n < mode.threshold
  · rw [Gpu.advance_below hlt]
    exact (Gpu.ok_iff _).mpr ⟨hlt, hvblank, hvisible⟩
  · have hge := Nat.not_lt.mp hlt
    cases mode with
    | oamScan =>
      rw [Gpu.advance_oamScan rfl hge, Gpu.ok_zero_iff]
      exact hvisible nofun
    | vramScan =>
      rw [Gpu.advance_vramScan rfl hge, Gpu.ok_zero_iff]
      exact hvisible nofun
    | hblank =>
      have hline : line < 144 := hvisible nofun
      rw [Gpu.advance_hblank rfl hge, Gpu.ok_zero_iff]
      by_cases hlast : line + 1 = 144
      · simp [hlast]
      · simp only [hlast, reduceCtorEq, if_false]
        omega
    | vblank =>
      have hline : 144 ≤ line ∧ line ≤ 153 := hvblank rfl
      rw [Gpu.advance_vblank rfl hge]
      by_cases hlast : 153 < line + 1
      · rw [if_pos hlast]
        exact (Gpu.ok_zero_iff .oamScan 0).mpr (by decide)
      · rw [if_neg hlast]
        exact (Gpu.ok_zero_iff .vblank (line + 1)).mpr ⟨by omega, by omega⟩

/-! ## A step -/

/-- HALT is the only instruction that uses the halting operation. -/
theorem formOf_eq_halt {i : Instr} (h : formOf i = .halt) : i = .halt := by
  cases i <;> cases h
  rfl

/-- A step that answers a next state either changes at most the latch (a halted machine's step, a fault taken) or completes the
instruction that a running machine fetched: an effect, a PC, and the accounting of a cost. -/
theorem step_latches_or_completes {s t : State} (h : step s = .next t) :
    (∃ f, t = { s with fault := f }) ∨
    (s.run = .running ∧ ∃ i u pc n, s.fetchInstr = .ok i ∧ s.Effect u ∧ t = (u.setPc pc).account n ∧
      (u.run = s.run ∨ i = .halt)) := by
  obtain ⟨-, ⟨-, rfl⟩ | ⟨-, f, -, rfl⟩ | ⟨hrun, i, hi, hexec | ⟨f, -, rfl⟩⟩⟩ := step_next h
  · exact .inl ⟨t.fault, rfl⟩
  · exact .inl ⟨some f, rfl⟩
  · obtain ⟨u, pc, heff, rfl, hu⟩ := exec_next hexec
    exact .inr ⟨hrun, i, u, pc, _, hi, heff, rfl, hu.imp_right fun ⟨hform, _⟩ => formOf_eq_halt hform⟩
  · exact .inl ⟨some f, rfl⟩

/-- An instruction's effect keeps the arrays sound and touches neither clock nor graphics unit; the accounting then reduces the one
modulo 2^CLK_W and advances the other. -/
theorem State.Effect.account_inv {s u : State} (heff : s.Effect u) (hs : s.Inv) (pc : Word) (n : Nat) :
    ((u.setPc pc).account n).Inv := by
  obtain ⟨harrays, hgpu, -⟩ := hs
  have hgpu' : u.gpu.ok = true := heff.gpu ▸ hgpu
  exact ⟨heff.arraysOk harrays, Gpu.advance_ok n hgpu', Nat.mod_lt _ (Nat.two_pow_pos _)⟩

/-! ## Construction (R320, R321) and the state after reset -/

/-- Construction builds a machine exactly from images of the right lengths. -/
theorem construct_eq_next {k : Construction} {t : State} :
    construct k = .next t ↔
      k.bootImage.length = bootSize ∧ k.romImage.length = spanSize k.cfg.regions.rom0 ∧ t = k.state := by
  unfold construct
  split_ifs with hboot hrom <;> simp_all [eq_comm]

/-- After reset every array is empty, so every address that selects a region reads as 0x00. -/
theorem State.memRead_reset {a : Word} (h : State.reset.mapped a) : State.reset.memRead a = .ok 0x00 := by
  rw [State.memRead_eq]
  cases hr : State.reset.region a with
  | none => exact absurd hr h
  | some rg => cases rg <;> rfl

theorem defaultConstruction_state : defaultConstruction.state = State.reset := by
  have hboot : Memory.ofBytes 0 defaultConstruction.bootImage = [] := Memory.ofBytes_replicate 0 bootSize
  have hrom : Memory.ofBytes 0 defaultConstruction.romImage = [] := Memory.ofBytes_replicate 0 _
  simp only [Construction.state, hboot, hrom]
  rfl

/-! ## The packed flags byte (R28) -/

@[simp] theorem Flags.ofByte_z (v : Byte) : (Flags.ofByte v).z = v[7] := rfl
@[simp] theorem Flags.ofByte_n (v : Byte) : (Flags.ofByte v).n = v[6] := rfl
@[simp] theorem Flags.ofByte_h (v : Byte) : (Flags.ofByte v).h = v[5] := rfl
@[simp] theorem Flags.ofByte_c (v : Byte) : (Flags.ofByte v).c = v[4] := rfl

/-- The four flags are bits 7 to 4 of the packed byte. -/
theorem Flags.toByte_highBits (f : Flags) :
    f.toByte[7] = f.z ∧ f.toByte[6] = f.n ∧ f.toByte[5] = f.h ∧ f.toByte[4] = f.c := by
  obtain ⟨z, n, h, c⟩ := f
  revert z n h c
  decide

/-- Bits 3 to 0 of the packed byte are zeros. -/
theorem Flags.toByte_lowBits (f : Flags) :
    f.toByte[3] = false ∧ f.toByte[2] = false ∧ f.toByte[1] = false ∧ f.toByte[0] = false := by
  obtain ⟨z, n, h, c⟩ := f
  revert z n h c
  decide

theorem Flags.toByte_and_lowNibble (f : Flags) : f.toByte &&& 0x0F = 0 := by
  have hlow := f.toByte_lowBits
  ext i hi
  interval_cases i <;> simp [hlow]

/-- Unpacking a packed byte gives the flags back. -/
@[simp] theorem Flags.ofByte_toByte (f : Flags) : Flags.ofByte f.toByte = f := by
  obtain ⟨hz, hn, hh, hc⟩ := f.toByte_highBits
  show Flags.mk f.toByte[7] f.toByte[6] f.toByte[5] f.toByte[4] = f
  rw [hz, hn, hh, hc]

/-- Packing an unpacked byte clears its low nibble. -/
@[simp] theorem Flags.toByte_ofByte (v : Byte) : (Flags.ofByte v).toByte = v &&& 0xF0 := by
  have hhigh := (Flags.ofByte v).toByte_highBits
  have hlow := (Flags.ofByte v).toByte_lowBits
  ext i hi
  interval_cases i <;> simp [hhigh, hlow]

end Sys2Proof.Machine

namespace Sys2Proof.Claims

open Sys2Proof.Machine

/-! ## The claims' bytes and words are the model's (R8, R22) -/

theorem wordOf_eq_joinBytes (hi lo : Byte) : wordOf hi lo = joinBytes hi lo :=
  BitVec.eq_of_toNat_eq (by rw [toNat_joinBytes, wordOf, BitVec.toNat_ofNat]; omega)

theorem highOf_eq_highByte (v : Word) : highOf v = highByte v := by
  apply BitVec.eq_of_toNat_eq
  simp [highOf, highByte, Nat.shiftRight_eq_div_pow]

theorem lowOf_eq_lowByte (v : Word) : lowOf v = lowByte v := by
  apply BitVec.eq_of_toNat_eq
  simp [lowOf, lowByte]

end Sys2Proof.Claims
end

section
/-! The statements of 10_state.md: O10, O6, O7, O11, O13, O15, O16. -/

namespace Sys2Proof.Proofs

open Sys2Proof.Machine Sys2Proof.Claims

/-- Settles O10: setting the latch touches no part of the invariant, and completing an instruction keeps it. -/
theorem stepKeepsInvariant : Obligations.StepKeepsInvariant := by
  intro s t hs hstep
  obtain ⟨f, rfl⟩ | ⟨-, i, u, pc, n, -, heff, rfl, -⟩ := step_latches_or_completes hstep
  · exact hs
  · exact heff.account_inv hs pc n

/-- Settles O6: of all that a step can do, only the completion of a fetched HALT changes the run state. -/
theorem onlyHaltLeavesRunning : Obligations.OnlyHaltLeavesRunning := by
  refine ⟨rfl, fun k t hk => ?_, fun s t hstep => ?_⟩
  · obtain ⟨-, -, rfl⟩ := construct_eq_next.mp hk
    rfl
  · obtain ⟨f, rfl⟩ | ⟨hrun, i, u, pc, n, hi, -, rfl, hu⟩ := step_latches_or_completes hstep
    · exact ⟨id, fun hrunning hhalted => absurd (hrunning.symm.trans hhalted) (by decide)⟩
    · refine ⟨fun hhalted => absurd (hrun.symm.trans hhalted) (by decide), fun _ hhalted => ?_⟩
      obtain hsame | rfl := hu
      · exact absurd (hrun.symm.trans (hsame.symm.trans hhalted)) (by decide)
      · exact hi

/-- Settles O7: neither the latch nor an instruction's effect and accounting touches these elements. -/
theorem stepKeepsImagesAndParameters : Obligations.StepKeepsImagesAndParameters := by
  intro s t hstep
  obtain ⟨f, rfl⟩ | ⟨-, i, u, pc, n, -, heff, rfl, -⟩ := step_latches_or_completes hstep
  · exact ⟨rfl, rfl, rfl, rfl⟩
  · exact ⟨heff.bootActive, heff.boot, heff.rom0, heff.cfg⟩

/-- Settles O11: the arrays are empty, the graphics unit is in HBlank at 0 and the cycle counter is 0. -/
theorem resetHasInvariant : Obligations.ResetHasInvariant :=
  ⟨rfl, (Gpu.ok_zero_iff .hblank 0).mpr (by decide), Nat.two_pow_pos _⟩

/-- Settles O13: the fields by definition, the arrays as empty lists, and two all-zero images as empty lists. -/
theorem resetState : Obligations.ResetState := by
  have hconstruct : construct defaultConstruction = .next State.reset :=
    construct_eq_next.mpr ⟨List.length_replicate, List.length_replicate, defaultConstruction_state.symm⟩
  have hreg (r : Reg8) : State.reset.reg r = 0x00 := by cases r <;> rfl
  exact ⟨hreg, rfl, rfl, rfl, rfl, rfl, rfl, rfl, rfl, fun _ => State.memRead_reset, hconstruct⟩

/-- Settles O15: the bits of the packed byte, and the two round trips read off them. -/
theorem flagsByteRoundTrip : Obligations.FlagsByteRoundTrip := by
  refine ⟨fun f => ?_, Flags.toByte_ofByte⟩
  obtain ⟨hz, hn, hh, hc⟩ := f.toByte_highBits
  exact ⟨Flags.ofByte_toByte f, Flags.toByte_and_lowNibble f, hz, hn, hh, hc⟩

/-- Settles O16: with the claims' bytes written as the model's, each view and each write holds by definition. -/
theorem pairsAreViews : Obligations.PairsAreViews := by
  intro s v x
  simp only [wordOf_eq_joinBytes, highOf_eq_highByte, lowOf_eq_lowByte]
  exact ⟨rfl, rfl, rfl, rfl, rfl, rfl, fun p => State.pair_setPair_self s p v, rfl, fun p a => State.memRead_setPair s p v a⟩

end Sys2Proof.Proofs
end

section
/-! SUPPORT for the statements of 20_memory.md: the range of each region, dispatch as a match of ranges, and what an access of a region
does. -/

namespace Sys2Proof.Machine

/-! ## Ranges (R51, R52) -/

/-- The range of each region (R52); BOOT has the one that every instantiation gives it. -/
def spanOf (r : Regions) : Region → Span
  | .boot => ⟨0, bootLast⟩
  | .rom0 => r.rom0
  | .vram => r.vram
  | .wram => r.wram
  | .io => r.io
  | .hram => r.hram

theorem inSpan_iff {r : Span} {n : Nat} : inSpan r n = true ↔ r.first ≤ n ∧ n ≤ r.last := by
  simp [inSpan]

theorem disjoint_comm (r r' : Span) : disjoint r r' = disjoint r' r := Bool.or_comm _ _

theorem not_inSpan_of_disjoint {r r' : Span} {n : Nat} (h : disjoint r r' = true) (hn : inSpan r n = true) :
    ¬ inSpan r' n = true := by
  rw [inSpan_iff] at hn ⊢
  simp only [disjoint, Bool.or_eq_true, decide_eq_true_eq] at h
  omega

/-- The regions whose ranges an implementation chooses: all but BOOT. -/
def chosenRegions : List Region := [.rom0, .vram, .wram, .io, .hram]

theorem mem_chosenRegions {rg : Region} (hb : rg ≠ .boot) : rg ∈ chosenRegions := by
  cases rg with
  | boot => exact absurd rfl hb
  | _ => decide

/-- R52 asks that the ranges be pairwise disjoint. -/
theorem chosenRegions_pairwise_disjoint {r : Regions} (hok : regionsOk r = true) :
    chosenRegions.Pairwise fun rg rg' => disjoint (spanOf r rg) (spanOf r rg') = true := by
  simp only [regionsOk, Bool.and_eq_true] at hok
  obtain ⟨⟨⟨⟨-, hrom0⟩, hvram⟩, hwram⟩, -⟩ := hok
  simp [chosenRegions, spanOf, hrom0, hvram, hwram]

theorem spanOf_disjoint {r : Regions} (hok : regionsOk r = true) {rg rg' : Region} (hb : rg ≠ .boot) (hb' : rg' ≠ .boot)
    (hne : rg ≠ rg') : disjoint (spanOf r rg) (spanOf r rg') = true :=
  have : Std.Symm fun rg rg' => disjoint (spanOf r rg) (spanOf r rg') = true :=
    ⟨fun _ _ h => (disjoint_comm _ _).trans h⟩
  (chosenRegions_pairwise_disjoint hok).forall (mem_chosenRegions hb) (mem_chosenRegions hb') hne

theorem region_unique_of_inSpan {r : Regions} (hok : regionsOk r = true) {rg rg' : Region} (hb : rg ≠ .boot) (hb' : rg' ≠ .boot)
    {n : Nat} (h : inSpan (spanOf r rg) n = true) (h' : inSpan (spanOf r rg') n = true) : rg = rg' := by
  by_contra hne
  exact not_inSpan_of_disjoint (spanOf_disjoint hok hb hb' hne) h h'

/-- R52: BOOT lies inside ROM0. -/
theorem inSpan_rom0_of_le_bootLast {r : Regions} (hok : regionsOk r = true) {n : Nat} (hn : n ≤ bootLast) :
    inSpan r.rom0 n = true := by
  simp only [regionsOk, Bool.and_eq_true, decide_eq_true_eq] at hok
  obtain ⟨-, hfirst, hlast⟩ := hok
  exact inSpan_iff.mpr ⟨by omega, by omega⟩

/-! ## Dispatch (R53) -/

/-- The boot overlay answers for the address. -/
abbrev State.overlaid (s : State) (a : Word) : Prop := s.bootActive = true ∧ a.toNat ≤ bootLast

theorem State.region_eq_boot_iff {s : State} {a : Word} : s.region a = some .boot ↔ s.overlaid a := by
  refine ⟨fun h => (State.region_bounds h).2, fun ⟨hactive, hlow⟩ => ?_⟩
  simp only [State.region, hactive, hlow, decide_true, Bool.and_self, if_true]

theorem State.inSpan_of_region {s : State} {a : Word} {rg : Region} (h : s.region a = some rg) :
    inSpan (spanOf s.cfg.regions rg) a.toNat = true := by
  obtain ⟨hfirst, hlast⟩ := State.region_bounds h
  cases rg with
  | boot => exact inSpan_iff.mpr ⟨hfirst, hlast.2⟩
  | _ => exact inSpan_iff.mpr ⟨hfirst, hlast⟩

/-- Dispatch passes over no address of a range; the table need not be disjoint for that. -/
theorem State.mapped_of_inSpan {s : State} {a : Word} {rg : Region} (hb : rg ≠ .boot)
    (h : inSpan (spanOf s.cfg.regions rg) a.toNat = true) : s.mapped a := by
  intro hnone
  unfold State.region at hnone
  split_ifs at hnone
  cases rg <;> contradiction

/-- Where BOOT does not answer, an address selects a region exactly when the region's range holds it. -/
theorem State.region_eq_some_iff {s : State} {a : Word} {rg : Region} (hok : regionsOk s.cfg.regions = true)
    (hlow : ¬ s.overlaid a) (hb : rg ≠ .boot) :
    s.region a = some rg ↔ (spanOf s.cfg.regions rg).first ≤ a.toNat ∧ a.toNat ≤ (spanOf s.cfg.regions rg).last := by
  rw [← inSpan_iff]
  refine ⟨State.inSpan_of_region, fun hin => ?_⟩
  obtain ⟨rg', hr⟩ := Option.ne_none_iff_exists'.mp (State.mapped_of_inSpan hb hin)
  have hb' : rg' ≠ .boot := by
    rintro rfl
    exact hlow (State.region_eq_boot_iff.mp hr)
  rw [hr, region_unique_of_inSpan hok hb hb' hin (State.inSpan_of_region hr)]

/-- The mapped addresses are those of the five ranges: BOOT adds none. -/
theorem State.mapped_iff {s : State} {a : Word} (hok : regionsOk s.cfg.regions = true) :
    s.mapped a ↔ ∃ rg, rg ≠ .boot ∧ inSpan (spanOf s.cfg.regions rg) a.toNat = true := by
  refine ⟨fun h => ?_, fun ⟨_, hb, hin⟩ => State.mapped_of_inSpan hb hin⟩
  obtain ⟨rg, hr⟩ := Option.ne_none_iff_exists'.mp h
  by_cases hboot : rg = .boot
  · subst hboot
    exact ⟨.rom0, by decide, inSpan_rom0_of_le_bootLast hok (State.region_eq_boot_iff.mp hr).2⟩
  · exact ⟨rg, hboot, State.inSpan_of_region hr⟩

/-! ## Accesses (R54 to R60) -/

theorem State.memRead_of_region {s : State} {a : Word} {rg : Region} (h : s.region a = some rg) (hio : rg ≠ .io) :
    s.memRead a = .ok (Memory.get (s.array rg) (s.place rg a)) := by
  rw [State.memRead_eq, h]
  cases rg with
  | io => exact absurd rfl hio
  | _ => rfl

theorem State.memRead_of_io {s : State} {a : Word} (h : s.region a = some .io) : s.memRead a = .ok 0x00 := by
  rw [State.memRead_eq, h]

theorem State.memRead_of_unmapped {s : State} {a : Word} (h : s.region a = none) :
    s.memRead a = .error (.unmappedAccess a) := by
  rw [State.memRead_eq, h]

theorem State.memWrite_of_region {s : State} {a : Word} {rg : Region} (h : s.region a = some rg) (v : Byte) :
    s.memWrite a v = .ok (if storesWrites rg then s.storeAt rg a v else s) := by
  simp only [State.memWrite, h]
  split_ifs <;> rfl

theorem State.memWrite_of_unmapped {s : State} {a : Word} (h : s.region a = none) (v : Byte) :
    s.memWrite a v = .error (.unmappedAccess a) := by
  simp only [State.memWrite, h]

/-- What a write leaves alone, as one equation. -/
theorem State.SameButRam.eq_withRam {s t : State} (h : s.SameButRam t) :
    t = { s with vram := t.vram, wram := t.wram, hram := t.hram } := by
  obtain ⟨hregs, hflags, hpc, hsp, hrun, hclk, hfault, hactive, hgpu, hboot, hrom0, hcfg⟩ := h
  rw [← hregs, ← hflags, ← hpc, ← hsp, ← hrun, ← hclk, ← hfault, ← hactive, ← hgpu, ← hboot, ← hrom0, ← hcfg]

end Sys2Proof.Machine

namespace Sys2Proof.Claims

open Sys2Proof.Machine

/-- A completed bus write is one write in the claims' sense (R56 to R60). -/
theorem wrote_of_memWrite {s t : State} {a : Word} {v : Byte} (hs : s.arraysOk = true) (h : s.memWrite a v = .ok t) :
    Wrote s [(a, v)] t :=
  ⟨(State.memWrite_same h).eq_withRam, State.memRead_memWrite hs h⟩

end Sys2Proof.Claims
end

section
/-! The statements of 20_memory.md: O17, O18, O20, O19. -/

namespace Sys2Proof.Proofs

open Sys2Proof.Machine Sys2Proof.Claims

/-- Settles O17: dispatch takes the first range that holds the address, and of disjoint ranges only one can. -/
theorem dispatchIsARangeMatch : Obligations.DispatchIsARangeMatch := by
  intro s a hok
  refine ⟨State.region_eq_boot_iff.mpr, fun hlow => ?_⟩
  have hmatch {rg : Region} (hb : rg ≠ .boot) := State.region_eq_some_iff hok hlow hb
  exact ⟨hmatch (rg := .rom0) nofun, hmatch (rg := .vram) nofun, hmatch (rg := .wram) nofun, hmatch (rg := .io) nofun,
    hmatch (rg := .hram) nofun, mt State.region_eq_boot_iff.mp hlow⟩

/-- Settles O18: the unmapped addresses are what the five default ranges leave of the 16-bit space. -/
theorem defaultUnmappedAddresses : Obligations.DefaultUnmappedAddresses := by
  have hok : regionsOk defaultRegions = true := by decide
  refine ⟨hok, fun s a hcfg => ?_⟩
  have hspace : a.toNat < 65536 := a.isLt
  rw [State.mapped_iff (hcfg ▸ hok), hcfg]
  simp only [inSpan_iff]
  constructor
  · intro hnot
    have hout (rg : Region) (hb : rg ≠ .boot) :
        ¬ ((spanOf defaultRegions rg).first ≤ a.toNat ∧ a.toNat ≤ (spanOf defaultRegions rg).last) :=
      fun hin => hnot ⟨rg, hb, hin⟩
    have hrom0 := hout .rom0 nofun
    have hvram := hout .vram nofun
    have hwram := hout .wram nofun
    have hio := hout .io nofun
    have hhram := hout .hram nofun
    simp only [spanOf, defaultRegions] at hrom0 hvram hwram hio hhram
    omega
  · rintro hgap ⟨rg, hb, hin⟩
    cases rg with
    | boot => exact hb rfl
    | _ =>
      simp only [spanOf, defaultRegions] at hin
      omega

/-- Settles O20: a write to a mapped address completes, keeps all but the RAM arrays, and every read follows the laws of storing. -/
theorem writeThenReadAnyAddress : Obligations.WriteThenReadAnyAddress := by
  intro s a v hs hmapped
  obtain ⟨t, ht⟩ := State.memWrite_ok_of_mapped v hmapped
  exact ⟨t, ht, wrote_of_memWrite hs ht⟩

/-- Settles O19: one access lemma per clause. -/
theorem accessesFollowDispatch : Obligations.AccessesFollowDispatch := fun _ _ v =>
  ⟨fun h => State.memRead_of_region h nofun,
    fun h => ⟨State.memRead_of_region h nofun, State.memWrite_of_region h v⟩,
    fun h => State.memRead_of_region h nofun,
    fun h => State.memRead_of_region h nofun,
    fun h => ⟨State.memRead_of_io h, State.memWrite_of_region h v⟩,
    fun h => State.memRead_of_region h nofun,
    fun h => ⟨State.memRead_of_unmapped h, State.memWrite_of_unmapped h v⟩⟩

end Sys2Proof.Proofs
end

section
/-! SUPPORT for the statements of 30_encoding.md: of the opcode byte(s), of the immediate, and so of a complete instruction, what
decodes to a thing is exactly its encoding, and the thing is well-formed. -/

namespace Sys2Proof.Laws

/-! ## The opcode byte(s) (R90, R99, R106) -/

/-- An admitted descriptor's bytes are literals, which the decoder computes on; UNKNOWN's decode to it because the descriptor is
well-formed. -/
theorem decodeOp_encodeOp {i : Instr} (h : i.wf = true) (rest : List Byte) : decodeOp (encodeOp i ++ rest) = .ok (i, rest) := by
  cases i with
  | unknown op => exact DecodeEncode.unknown op h rest
  | unknownCb op2 => exact DecodeEncode.unknownCb op2 h rest
  | _ => rfl

/-- The whole base table, the prefix aside (R101, R103): a byte decodes to a well-formed descriptor that is listed with that byte. -/
theorem decodeBase_wf_and_encodeOp : ∀ op : Byte, op ≠ extendedByte →
    (decodeBase op).wf = true ∧ encodeOp (decodeBase op) = [op] := by
  decide

/-- The whole extended table (R102, R103), likewise. -/
theorem decodeExtended_wf_and_encodeOp : ∀ op2 : Byte,
    (decodeExtended op2).wf = true ∧ encodeOp (decodeExtended op2) = [extendedByte, op2] := by
  decide

/-- The two ways to read a descriptor: one base byte, or the prefix and an extended byte. -/
theorem decodeOp_eq_ok {bs rest : List Byte} {i : Instr} (h : decodeOp bs = .ok (i, rest)) :
    (∃ op, op ≠ extendedByte ∧ bs = op :: rest ∧ i = decodeBase op) ∨
    (∃ op2, bs = extendedByte :: op2 :: rest ∧ i = decodeExtended op2) := by
  cases bs with
  | nil => cases h
  | cons op tail =>
    by_cases hop : op = extendedByte
    · subst hop
      cases tail with
      | nil => cases h
      | cons op2 tail2 =>
        cases h
        exact .inr ⟨op2, rfl, rfl⟩
    · cases (if_neg hop).symm.trans h
      exact .inl ⟨op, hop, rfl, rfl⟩

theorem decodeOp_eq_ok_iff {bs rest : List Byte} {i : Instr} :
    decodeOp bs = .ok (i, rest) ↔ i.wf = true ∧ encodeOp i ++ rest = bs := by
  constructor
  · intro h
    obtain ⟨op, hop, rfl, rfl⟩ | ⟨op2, rfl, rfl⟩ := decodeOp_eq_ok h
    · obtain ⟨hwf, hbytes⟩ := decodeBase_wf_and_encodeOp op hop
      exact ⟨hwf, by rw [hbytes, List.singleton_append]⟩
    · obtain ⟨hwf, hbytes⟩ := decodeExtended_wf_and_encodeOp op2
      exact ⟨hwf, by rw [hbytes, List.cons_append, List.singleton_append]⟩
  · rintro ⟨hwf, rfl⟩
    exact decodeOp_encodeOp hwf rest

/-! ## The immediate (R91, R98, D9) -/

/-- In each case the only formats left are those that ask for the immediate's shape. -/
theorem decodeImm_encodeImm {m : Imm} {f : Format} (h : m.fits f = true) (rest : List Byte) :
    decodeImm f (encodeImm m ++ rest) = .ok (m, rest) := by
  cases m with
  | none => cases f <;> cases h <;> rfl
  | byte v => cases f <;> cases h <;> rfl
  | word v => cases f <;> cases h <;> simp [encodeImm, decodeImm]

theorem fits_and_encodeImm_of_decodeImm {bs rest : List Byte} {m : Imm} {f : Format} (h : decodeImm f bs = .ok (m, rest)) :
    m.fits f = true ∧ encodeImm m ++ rest = bs := by
  cases f with
  | OP | CB_OP =>
    cases h
    exact ⟨rfl, rfl⟩
  | OP_D8 | OP_A8 | OP_E8 =>
    obtain _ | ⟨v, tail⟩ := bs
    · cases h
    · cases h
      exact ⟨rfl, rfl⟩
  | OP_D16 | OP_A16 =>
    obtain _ | ⟨lo, _ | ⟨hi, tail⟩⟩ := bs
    · cases h
    · cases h
    · cases h
      simp [Imm.fits, encodeImm]

theorem decodeImm_eq_ok_iff {bs rest : List Byte} {m : Imm} {f : Format} :
    decodeImm f bs = .ok (m, rest) ↔ m.fits f = true ∧ encodeImm m ++ rest = bs := by
  constructor
  · exact fits_and_encodeImm_of_decodeImm
  · rintro ⟨hfits, rfl⟩
    exact decodeImm_encodeImm hfits rest

/-! ## A complete instruction -/

theorem decodeInsn_eq_ok_iff_exists {bs rest : List Byte} {i : Insn} :
    decodeInsn bs = .ok (i, rest) ↔
      ∃ tail, decodeOp bs = .ok (i.op, tail) ∧ decodeImm i.op.format tail = .ok (i.imm, rest) := by
  obtain ⟨op, imm⟩ := i
  unfold decodeInsn
  constructor
  · intro h
    split at h
    · cases h
    next _ tail hop =>
      split at h
      · cases h
      next himm =>
        cases h
        exact ⟨tail, hop, himm⟩
  · rintro ⟨tail, hop, himm⟩
    simp only [hop, himm]

theorem decodeInsn_eq_ok_iff {bs rest : List Byte} {i : Insn} :
    decodeInsn bs = .ok (i, rest) ↔ i.wf = true ∧ encode i ++ rest = bs := by
  simp only [decodeInsn_eq_ok_iff_exists, decodeOp_eq_ok_iff, decodeImm_eq_ok_iff, Insn.wf, encode, Bool.and_eq_true, List.append_assoc]
  constructor
  · rintro ⟨tail, ⟨hop, hbs⟩, hfits, rfl⟩
    exact ⟨⟨hop, hfits⟩, hbs⟩
  · rintro ⟨⟨hop, hfits⟩, hbs⟩
    exact ⟨encodeImm i.imm ++ rest, ⟨hop, hbs⟩, hfits, rfl⟩

/-- One more instruction in front is decoded first. -/
theorem decodeMany_succ {n : Nat} {bs tail rest : List Byte} {i : Insn} {is : List Insn}
    (hi : decodeInsn bs = .ok (i, tail)) (his : decodeMany n tail = .ok (is, rest)) :
    decodeMany (n + 1) bs = .ok (i :: is, rest) := by
  simp only [decodeMany, hi, his]

/-! ## The bytes of UNKNOWN (R103) -/

theorem decodeBase_eq_unknown_iff {op : Byte} (hop : op ≠ extendedByte) : decodeBase op = .unknown op ↔ op ∈ unknownBase := by
  constructor
  · intro h
    obtain ⟨hwf, -⟩ := decodeBase_wf_and_encodeOp op hop
    rw [h] at hwf
    exact List.contains_iff_mem.mp hwf
  · exact fun h => (decodeBase_unknown op h).2

theorem decodeExtended_eq_unknownCb_iff {op2 : Byte} : decodeExtended op2 = .unknownCb op2 ↔ isUnknownExtended op2 = true := by
  constructor
  · intro h
    obtain ⟨hwf, -⟩ := decodeExtended_wf_and_encodeOp op2
    rwa [h] at hwf
  · exact decodeExtended_unknown

theorem isUnknownExtended_iff {op2 : Byte} :
    isUnknownExtended op2 = true ↔ (0x20 ≤ op2.toNat ∧ op2.toNat ≤ 0x3F) ∨ 0x80 ≤ op2.toNat := by
  simp only [isUnknownExtended, Bool.or_eq_true, Bool.and_eq_true, decide_eq_true_eq]

end Sys2Proof.Laws
end

section
/-! The statements of 30_encoding.md: O26, O27, O29, O28. -/

namespace Sys2Proof.Proofs

open Sys2Proof.Machine Sys2Proof.Laws

/-- Settles O26, by induction on the list: the first encoding decodes to its instruction and leaves the others and what follows. -/
theorem decodeManyOfEncodings : Obligations.DecodeManyOfEncodings := by
  intro is rest hwf
  induction is with
  | nil => rfl
  | cons i is ih =>
    obtain ⟨hi, his⟩ := List.forall_mem_cons.mp hwf
    have hfirst : decodeInsn ((i :: is).flatMap encode ++ rest) = .ok (i, is.flatMap encode ++ rest) :=
      decodeInsn_eq_ok_iff.mpr ⟨hi, by rw [List.flatMap_cons, List.append_assoc]⟩
    exact decodeMany_succ hfirst (ih his)

/-- Settles O27: one direction of what it is to decode. -/
theorem everyDecodingIsAnEncoding : Obligations.EveryDecodingIsAnEncoding :=
  fun _ _ _ => decodeInsn_eq_ok_iff.mp

/-- Settles O29: the two meanings by definition, and a byte decodes to UNKNOWN exactly if the descriptor that carries it is
well-formed. -/
theorem unknownOpcodesFault : Obligations.UnknownOpcodesFault :=
  ⟨fun op => exec_eq_run (.unknown op), fun op2 => exec_eq_run (.unknownCb op2), fun _ => decodeBase_eq_unknown_iff, rfl,
    fun _ => decodeExtended_eq_unknownCb_iff.trans isUnknownExtended_iff⟩

/-- Settles O28: each of the words is fixed, so the decoder computes them. -/
theorem listedWordsDecode : Obligations.ListedWordsDecode := by
  unfold Obligations.ListedWordsDecode
  decide

end Sys2Proof.Proofs
end

section
/-! SUPPORT for the statements of 40_alu8.md: results and flags in the claims' terms, addition and subtraction over the integers; and one
rule for what every arithmetic instruction does, whatever its kind and operand form. -/

namespace Sys2Proof.Machine

/-! ## Results and flags (R121 to R129) -/

theorem byteOfNat_eq_zero_iff (n : Nat) : (BitVec.ofNat 8 n : Byte) = 0 ↔ n % 256 = 0 := by
  rw [← BitVec.toNat_inj, BitVec.toNat_ofNat]
  rfl

/-- Every flag of a sum, the zero flag too, is read off the exact sum. -/
theorem addBytes_flags (a v : Byte) (cin : Bool) :
    (addBytes a v cin).flags =
      { z := decide ((a.toNat + v.toNat + cin.toNat) % 256 = 0)
        n := false
        h := decide (a.toNat % 16 + v.toNat % 16 + cin.toNat > 0xF)
        c := decide (a.toNat + v.toNat + cin.toNat > 0xFF) } := by
  simp only [addBytes, byteOfNat_eq_zero_iff, gt_iff_lt]

/-- A difference modulo 256; two borrowed multiples of 256 keep it a natural number. -/
theorem subBytes_value (a v : Byte) (cin : Bool) :
    (subBytes a v cin).value = BitVec.ofNat 8 (a.toNat + 512 - v.toNat - cin.toNat) := by
  have hv := v.isLt
  have hcin := cin.toNat_le
  apply BitVec.eq_of_toNat_eq
  simp only [subBytes, BitVec.toNat_sub, BitVec.toNat_ofNat]
  omega

theorem subBytes_flags (a v : Byte) (cin : Bool) :
    (subBytes a v cin).flags =
      { z := decide ((a.toNat + 512 - v.toNat - cin.toNat) % 256 = 0)
        n := true
        h := decide (a.toNat % 16 < v.toNat % 16 + cin.toNat)
        c := decide (a.toNat < v.toNat + cin.toNat) } := by
  have hz : decide ((subBytes a v cin).value = 0) = decide ((a.toNat + 512 - v.toNat - cin.toNat) % 256 = 0) := by
    simp only [subBytes_value, byteOfNat_eq_zero_iff]
  rw [← hz]
  rfl

/-- Without a borrow coming in, one multiple of 256 is enough. -/
theorem subBytes_false_value (a v : Byte) : (subBytes a v false).value = BitVec.ofNat 8 (a.toNat + 256 - v.toNat) := by
  have hv := v.isLt
  rw [subBytes_value]
  apply BitVec.eq_of_toNat_eq
  simp only [BitVec.toNat_ofNat, Bool.toNat_false]
  omega

/-- Without a borrow coming in, the difference is zero exactly if the operands are equal (R123, R128). -/
theorem subBytes_false_flags (a v : Byte) :
    (subBytes a v false).flags =
      { z := decide (a = v)
        n := true
        h := decide (a.toNat % 16 < v.toNat % 16)
        c := decide (a.toNat < v.toNat) } := by
  have hz : a - v - 0 = 0 ↔ a = v := by rw [sub_zero, sub_eq_zero]
  rw [← decide_eq_decide.mpr hz]
  rfl

/-- An XOR is zero exactly if its operands are equal (R126). -/
theorem xorBytes_flags (a v : Byte) : (xorBytes a v).flags = { z := decide (a = v), n := false, h := false, c := false } := by
  simp only [xorBytes, BitVec.ofNat_eq_ofNat, BitVec.xor_eq_zero_iff]

/-- An OR is zero exactly if both its operands are (R127). -/
theorem orBytes_flags (a v : Byte) :
    (orBytes a v).flags = { z := decide (a = 0 ∧ v = 0), n := false, h := false, c := false } := by
  simp only [orBytes, BitVec.ofNat_eq_ofNat, BitVec.or_eq_zero_iff]

/-- The carry is the ninth bit of the sum, which is below 512. -/
theorem addBytes_exact (a v : Byte) (cin : Bool) :
    (addBytes a v cin).flags.c.toNat * 256 + (addBytes a v cin).value.toNat = a.toNat + v.toNat + cin.toNat := by
  have ha := a.isLt
  have hv := v.isLt
  have hcin := cin.toNat_le
  simp only [addBytes, BitVec.toNat_ofNat]
  by_cases hc : 0xFF < a.toNat + v.toNat + cin.toNat
  · simp only [hc, decide_true, Bool.toNat_true]
    omega
  · simp only [hc, decide_false, Bool.toNat_false]
    omega

/-- The carry counts the one multiple of 256 that the difference borrows. -/
theorem subBytes_exact (a v : Byte) (cin : Bool) :
    (subBytes a v cin).value.toNat + v.toNat + cin.toNat = a.toNat + 256 * (subBytes a v cin).flags.c.toNat := by
  have ha := a.isLt
  have hv := v.isLt
  have hcin := cin.toNat_le
  rw [subBytes_value, subBytes_flags, BitVec.toNat_ofNat]
  by_cases hc : a.toNat < v.toNat + cin.toNat
  · simp only [hc, decide_true, Bool.toNat_true]
    omega
  · simp only [hc, decide_false, Bool.toNat_false]
    omega

/-! ## The instructions (R120) -/

/-- The descriptor of each kind and operand form uses the arithmetic operation with that kind and form. -/
theorem formOf_alu (op : AluOp) (x : Src8) : formOf (Instr.alu op x) = .alu op x := by
  cases x with
  | reg r => cases op <;> cases r <;> rfl
  | indHL => cases op <;> rfl
  | d8 => cases op <;> rfl

theorem exec_alu (op : AluOp) (x : Src8) (s : State) : exec (Instr.alu op x) s = aluInstr op x s := by
  rw [exec_eq_run, formOf_alu]
  rfl

/-- What an arithmetic kind leaves in the registers and the flags: A and the flags are written, by CP the flags only (R121 to R128). -/
def aluEffect (op : AluOp) (r : Regs) (f : Flags) (v : Byte) : Regs × Flags :=
  (if op = .cp then r else { r with a := (aluResult op r.a v f.c).value }, (aluResult op r.a v f.c).flags)

theorem State.aluWrite_eq_aluEffect (s : State) (op : AluOp) (v : Byte) :
    s.aluWrite op (aluResult op (s.reg .A) v s.flags.c) =
      { s with regs := (aluEffect op s.regs s.flags v).1, flags := (aluEffect op s.regs s.flags v).2 } := by
  cases op <;> rfl

end Sys2Proof.Machine

namespace Sys2Proof.Claims

open Sys2Proof.Machine

/-- The claims' operand, length and cost are the model's. -/
theorem aluForm_eq (s : State) (x : Src8) :
    aluForm s x = (s.readSrc8 x, src8Length x, src8Cycles s.cfg.cyc x) := by
  cases x with
  | reg r => rfl
  | indHL =>
    simp only [aluForm, wordOf_eq_joinBytes]
    rfl
  | d8 => rfl

/-- Every arithmetic kind has the claims' shape, with the model's effect. -/
theorem aluDoes_aluEffect (op : AluOp) : AluDoes op (aluEffect op) := by
  intro s x
  rw [aluForm_eq, exec_alu, aluInstr]
  refine ⟨fun v (hv : s.readSrc8 x = .ok v) => ?_, fun f (hf : s.readSrc8 x = .error f) => ?_⟩
  · rw [hv, onOk_ok, State.aluWrite_eq_aluEffect]
    rfl
  · rw [hf, onOk_error]

/-- A stated effect holds of an arithmetic kind once it is the model's. -/
theorem aluDoes_of_eq_aluEffect {op : AluOp} {effect : Regs → Flags → Byte → Regs × Flags}
    (h : ∀ r f v, effect r f v = aluEffect op r f v) : AluDoes op effect := by
  obtain rfl : effect = aluEffect op := funext fun r => funext fun f => funext fun v => h r f v
  exact aluDoes_aluEffect op

/-- Where the operand can be read, the next state has the registers and flags of the effect. -/
theorem regs_flags_of_exec_alu {op : AluOp} {x : Src8} {s t : State} {v : Byte} (hv : (aluForm s x).1 = .ok v)
    (h : exec (Instr.alu op x) s = .next t) :
    t.regs = (aluEffect op s.regs s.flags v).1 ∧ t.flags = (aluEffect op s.regs s.flags v).2 := by
  obtain ⟨hnext, -⟩ := aluDoes_aluEffect op s x
  cases (hnext v hv).symm.trans h
  exact ⟨rfl, rfl⟩

end Sys2Proof.Claims
end

section
/-! The statements of 40_alu8.md: O31, O32, O33, O34, O35, O36, O37. -/

namespace Sys2Proof.Proofs

open Sys2Proof.Machine Sys2Proof.Claims

/-- Settles O31: ADD is the addition without a carry coming in. -/
theorem addAddsToA : Obligations.AddAddsToA :=
  aluDoes_of_eq_aluEffect fun r _ v => congrArg (Prod.mk _) (addBytes_flags r.a v false).symm

/-- Settles O32: A's value by definition, the flags from the exact sum. -/
theorem adcAddsCarryToo : Obligations.AdcAddsCarryToo :=
  aluDoes_of_eq_aluEffect fun r f v => congrArg (Prod.mk _) (addBytes_flags r.a v f.c).symm

/-- Settles O33: SUB is the subtraction without a borrow coming in. -/
theorem subSubtractsFromA : Obligations.SubSubtractsFromA :=
  aluDoes_of_eq_aluEffect fun r _ v => by
    rw [← subBytes_false_value, ← subBytes_false_flags]
    rfl

/-- Settles O34: A's value and the flags are those of the difference with the borrow. -/
theorem sbcSubtractsCarryToo : Obligations.SbcSubtractsCarryToo :=
  aluDoes_of_eq_aluEffect fun r f v => by
    rw [← subBytes_value, ← subBytes_flags]
    rfl

/-- Settles O35: the results by definition, AND's flags too; those of XOR and OR by when the result is zero. -/
theorem logicOnA : Obligations.LogicOnA :=
  ⟨aluDoes_of_eq_aluEffect fun _ _ _ => rfl,
    aluDoes_of_eq_aluEffect fun r _ v => congrArg (Prod.mk _) (xorBytes_flags r.a v).symm,
    aluDoes_of_eq_aluEffect fun r _ v => congrArg (Prod.mk _) (orBytes_flags r.a v).symm⟩

/-- Settles O36: the flags of SUB, and the effect of CP leaves the registers. -/
theorem cpOnlyCompares : Obligations.CpOnlyCompares :=
  aluDoes_of_eq_aluEffect fun r _ v => congrArg (Prod.mk r) (subBytes_false_flags r.a v).symm

/-- Settles O37: the next state's A and carry are those of the model's sum or difference, which are exact together. -/
theorem carryCompletesTheResult : Obligations.CarryCompletesTheResult := by
  intro s t x v hv
  refine ⟨fun h => ?_, fun h => ?_⟩
  · obtain ⟨hregs, hflags⟩ := regs_flags_of_exec_alu hv h
    rw [hregs, hflags]
    exact addBytes_exact s.regs.a v s.flags.c
  · obtain ⟨hregs, hflags⟩ := regs_flags_of_exec_alu hv h
    rw [hregs, hflags]
    exact subBytes_exact s.regs.a v s.flags.c

end Sys2Proof.Proofs
end

section
/-! SUPPORT for the statements of 41_incdec_add16.md: one rule for every operation that reads a register or (HL), writes it back and sets
flags; INC and DEC of a byte as sums; and the claims' 16-bit operands as the model's. -/

namespace Sys2Proof.Machine

/-- A read that answers a byte found a region. -/
theorem State.mapped_of_memRead_ok {s : State} {a : Word} {v : Byte} (h : s.memRead a = .ok v) : s.mapped a := by
  intro hnone
  cases (State.memRead_of_unmapped hnone).symm.trans h

/-! ## Read, modify, write back (R140 to R143, R236) -/

/-- What the operations on a register or (HL) share: read the operand, write back what `op` makes of it, set the flags of that. -/
def modifyLoc8 (op : Byte → ByteResult) (length : Word) (onReg onHl : Nat) (x : Loc8) (s : State) : Result :=
  onOk (s.readLoc8 x) fun old =>
    onOk (s.writeLoc8 x (op old).value) fun t =>
      .next ((t.setFlags (op old).flags).retire length (loc8Cycles onReg onHl x))

theorem exec_inc8 (x : Loc8) (s : State) :
    exec (Instr.inc8 x) s = modifyLoc8 (incByte · s.flags) 1 s.cfg.cyc.incdecR s.cfg.cyc.incdecHl x s := by
  cases x with
  | reg r => cases r <;> rfl
  | indHL => rfl

theorem exec_dec8 (x : Loc8) (s : State) :
    exec (Instr.dec8 x) s = modifyLoc8 (decByte · s.flags) 1 s.cfg.cyc.incdecR s.cfg.cyc.incdecHl x s := by
  cases x with
  | reg r => cases r <;> rfl
  | indHL => rfl

/-- The sum is zero exactly if the byte was 0xFF. -/
theorem incByte_eq (old : Byte) (f : Flags) :
    incByte old f =
      ⟨old + 0x01, { z := decide (old = 0xFF), n := false, h := decide (old.toNat % 16 = 0xF), c := f.c }⟩ := by
  have hz : old + 1 = 0 ↔ old = 0xFF := add_eq_zero_iff_eq_neg
  rw [← decide_eq_decide.mpr hz]
  rfl

/-- Subtracting 1 is adding 0xFF, and the difference is zero exactly if the byte was 1. -/
theorem decByte_eq (old : Byte) (f : Flags) :
    decByte old f =
      ⟨old + 0xFF, { z := decide (old = 0x01), n := true, h := decide (old.toNat % 16 = 0x0), c := f.c }⟩ := by
  have hz : old - 1 = 0 ↔ old = 0x01 := sub_eq_zero
  have hvalue : old - 1 = old + 0xFF := sub_eq_add_neg old 1
  rw [← decide_eq_decide.mpr hz, ← hvalue]
  rfl

/-! ## The 16-bit instructions (R144 to R146) -/

theorem exec_inc16 (x : Reg16) (s : State) : exec (Instr.inc16 x) s = inc16Instr x s := by
  cases x <;> rfl

theorem exec_dec16 (x : Reg16) (s : State) : exec (Instr.dec16 x) s = dec16Instr x s := by
  cases x <;> rfl

theorem exec_addHL (x : Reg16) (s : State) : exec (Instr.addHL x) s = addHlInstr x s := by
  cases x <;> rfl

end Sys2Proof.Machine

namespace Sys2Proof.Claims

open Sys2Proof.Machine

/-! ## Read, modify, write back, in the claims' terms -/

/-- Retiring an instruction is the claims' end of it. -/
theorem retire_eq_done (s : State) (length : Word) (n : Nat) : s.retire length n = done s (s.pc + length) n := rfl

theorem modifyLoc8_reg (op : Byte → ByteResult) (length : Word) (onReg onHl : Nat) (r : Reg8) (s : State) :
    modifyLoc8 op length onReg onHl (.reg r) s =
      .next (done { s with regs := s.regs.set r (op (s.reg r)).value, flags := (op (s.reg r)).flags } (s.pc + length) onReg) :=
  rfl

/-- Where the byte at HL can be read, its address is mapped, so the write back completes too. -/
theorem modifyLoc8_indHL_ok (op : Byte → ByteResult) (length : Word) (onReg onHl : Nat) {s : State} {old : Byte}
    (hs : s.arraysOk = true) (hread : s.memRead (wordOf s.regs.h s.regs.l) = .ok old) :
    ∃ u, Wrote s [(wordOf s.regs.h s.regs.l, (op old).value)] u ∧
      modifyLoc8 op length onReg onHl .indHL s = .next (done { u with flags := (op old).flags } (s.pc + length) onHl) := by
  rw [wordOf_eq_joinBytes] at hread ⊢
  obtain ⟨u, hwrite⟩ := State.memWrite_ok_of_mapped (op old).value (State.mapped_of_memRead_ok hread)
  have hread' : s.readLoc8 .indHL = .ok old := hread
  have hwrite' : s.writeLoc8 .indHL (op old).value = .ok u := hwrite
  refine ⟨u, wrote_of_memWrite hs hwrite, ?_⟩
  rw [modifyLoc8, hread', onOk_ok, hwrite', onOk_ok, retire_eq_done, State.setFlags_pc, (State.memWrite_same hwrite).pc]
  rfl

theorem modifyLoc8_indHL_error (op : Byte → ByteResult) (length : Word) (onReg onHl : Nat) {s : State} {f : Fault}
    (hread : s.memRead (wordOf s.regs.h s.regs.l) = .error f) :
    modifyLoc8 op length onReg onHl .indHL s = .fault f := by
  rw [wordOf_eq_joinBytes] at hread
  have hread' : s.readLoc8 .indHL = .error f := hread
  rw [modifyLoc8, hread', onOk_error]

/-- An instruction that modifies its operand has the claims' shape once the stated value and flags are those of its operation. -/
theorem incDecDoes_of_modifyLoc8 {instr : Loc8 → Instr} {op : Byte → Flags → ByteResult} {delta : Byte}
    {flagsOf : Byte → Flags → Flags}
    (hexec : ∀ x s, exec (instr x) s = modifyLoc8 (op · s.flags) 1 s.cfg.cyc.incdecR s.cfg.cyc.incdecHl x s)
    (hop : ∀ old f, op old f = ⟨old + delta, flagsOf old f⟩) : IncDecDoes instr delta flagsOf := by
  obtain rfl : op = fun old f => ⟨old + delta, flagsOf old f⟩ := funext₂ hop
  intro s
  simp only [hexec]
  exact ⟨fun r => modifyLoc8_reg _ _ _ _ r s,
    fun _ hs hread => modifyLoc8_indHL_ok (fun old => ⟨old + delta, flagsOf old s.flags⟩) _ _ _ hs hread,
    fun _ hread => modifyLoc8_indHL_error _ _ _ _ hread⟩

/-! ## 16-bit operands (R22, R94, R144 to R146) -/

theorem with16_eq_setReg16 (s : State) (x : Reg16) (v : Word) : with16 s x v = s.setReg16 x v := by
  cases x <;> simp only [with16, highOf_eq_highByte, lowOf_eq_lowByte] <;> rfl

theorem value16_eq_reg16 (s : State) (x : Reg16) : value16 s x = s.reg16 x := by
  cases x <;> simp only [value16, wordOf_eq_joinBytes] <;> rfl

/-- Completing an instruction that wrote a 16-bit operand, in the claims' terms. -/
theorem retire_setReg16 (s : State) (x : Reg16) (v length : Word) (n : Nat) :
    (s.setReg16 x v).retire length n = done (with16 s x v) (s.pc + length) n := by
  rw [with16_eq_setReg16, retire_eq_done, State.setReg16_pc]

/-- A word plus a number, modulo 65536. -/
theorem ofNat_toNat_add (v : Word) (n : Nat) : BitVec.ofNat 16 (v.toNat + n) = v + BitVec.ofNat 16 n := by
  rw [BitVec.ofNat_add, BitVec.ofNat_toNat, BitVec.setWidth_eq]

end Sys2Proof.Claims
end

section
/-! The statements of 41_incdec_add16.md: O38, O39, O40, O41. -/

namespace Sys2Proof.Proofs

open Sys2Proof.Machine Sys2Proof.Claims

/-- Settles O38: INC modifies its operand, and the model's value and flags are the stated ones. -/
theorem incOfAByte : Obligations.IncOfAByte := incDecDoes_of_modifyLoc8 exec_inc8 incByte_eq

/-- Settles O39: DEC modifies its operand, and subtracting 1 is adding 0xFF. -/
theorem decOfAByte : Obligations.DecOfAByte := incDecDoes_of_modifyLoc8 exec_dec8 decByte_eq

/-- Settles O40: the operand is the model's, and adding 65535 modulo 65536 subtracts 1. -/
theorem incDecOfAWord : Obligations.IncDecOfAWord := by
  intro s x
  have hinc : BitVec.ofNat 16 ((s.reg16 x).toNat + 1) = s.reg16 x + 1 := ofNat_toNat_add (s.reg16 x) 1
  have hdec : BitVec.ofNat 16 ((s.reg16 x).toNat + 65535) = s.reg16 x - 1 :=
    (ofNat_toNat_add (s.reg16 x) 65535).trans (sub_eq_add_neg (s.reg16 x) 1).symm
  rw [value16_eq_reg16, hinc, hdec, ← retire_setReg16, ← retire_setReg16]
  exact ⟨exec_inc16 x s, exec_dec16 x s⟩

/-- Settles O41: both operands are the model's, the sum is theirs modulo 65536, and the flags are the model's by definition. -/
theorem addHlAddsAWord : Obligations.AddHlAddsAWord := by
  intro s x
  have hsum : BitVec.ofNat 16 ((s.reg16 .HL).toNat + (s.reg16 x).toNat) = s.reg16 .HL + s.reg16 x := by
    rw [ofNat_toNat_add, BitVec.ofNat_toNat, BitVec.setWidth_eq]
  rw [value16_eq_reg16, value16_eq_reg16, hsum, with16_eq_setReg16]
  exact exec_addHL x s

end Sys2Proof.Proofs
end

section
/-! SUPPORT for the statements of 42_load8.md: the model's memory operands and immediates in the claims' terms, and one rule each for
what a load from memory and a store to memory do, whatever the operand. -/

namespace Sys2Proof.Machine

/-! ## Words in memory (R11, R98) -/

theorem State.memRead2_of_ok {s : State} {a : Word} {lo hi : Byte} (hlo : s.memRead a = .ok lo)
    (hhi : s.memRead (a + 1) = .ok hi) : s.memRead2 a = .ok (joinBytes hi lo) := by
  simp only [State.memRead2, hlo, hhi]

theorem State.memRead2_of_low_error {s : State} {a : Word} {f : Fault} (hlo : s.memRead a = .error f) :
    s.memRead2 a = .error f := by
  simp only [State.memRead2, hlo]

theorem State.memRead2_of_high_error {s : State} {a : Word} {lo : Byte} {f : Fault} (hlo : s.memRead a = .ok lo)
    (hhi : s.memRead (a + 1) = .error f) : s.memRead2 a = .error f := by
  simp only [State.memRead2, hlo, hhi]

/-! ## The (a8) operand -/

theorem State.effAddr_inda8_of_ok {s : State} {v : Byte} (h : s.imm8 = .ok v) : s.effAddr .inda8 = .ok (windowAddr v) := by
  simp only [State.effAddr, h]

theorem State.effAddr_inda8_of_error {s : State} {f : Fault} (h : s.imm8 = .error f) : s.effAddr .inda8 = .error f := by
  simp only [State.effAddr, h]

/-! ## The instructions (R161 to R179) -/

theorem exec_ldRegReg (rd rs : Reg8) (s : State) : exec (Instr.ldRegReg rd rs) s = loadReg rd rs s := by
  cases rd <;> cases rs <;> rfl

theorem exec_ldRegD8 (rd : Reg8) (s : State) : exec (Instr.ldRegD8 rd) s = loadImm rd s := by
  cases rd <;> rfl

theorem exec_ld_indHL_d8 (s : State) : exec .ld_indHL_d8 s = storeImm s := rfl

end Sys2Proof.Machine

namespace Sys2Proof.Claims

open Sys2Proof.Machine

/-! ## Operands in the claims' terms (R160) -/

/-- The claims' immediate word is the model's. -/
theorem imm16_of_immWord {s : State} {w : Word} (h : ImmWord s w) : s.imm16 = .ok w := by
  obtain ⟨lo, hi, hlo, hhi, rfl⟩ := h
  have hnext : s.pc + 1 + 1 = s.pc + 2 := add_assoc s.pc 1 1
  rw [wordOf_eq_joinBytes]
  exact State.memRead2_of_ok hlo (hnext ▸ hhi)

/-- The claims' fault of an immediate word is the model's. -/
theorem imm16_of_immWordFault {s : State} {f : Fault} (h : ImmWordFault s f) : s.imm16 = .error f := by
  have hnext : s.pc + 1 + 1 = s.pc + 2 := add_assoc s.pc 1 1
  obtain hlo | ⟨lo, hlo, hhi⟩ := h
  · exact State.memRead2_of_low_error hlo
  · exact State.memRead2_of_high_error hlo (hnext ▸ hhi)

theorem windowAddr_eq (v : Byte) : windowAddr v = BitVec.ofNat 16 (0xFF00 + v.toNat) :=
  (wordOf_eq_joinBytes 0xFF v).symm

/-- The model's post-effect writes the registers that the claims say. -/
theorem postEffect_eq_afterPost (s : State) (m : MemOperand) (addr : Word) :
    s.postEffect m addr = { s with regs := afterPost m addr s.regs } := by
  cases m with
  | indHLinc | indHLdec =>
    simp only [afterPost, highOf_eq_highByte, lowOf_eq_lowByte]
    rfl
  | _ => rfl

/-! ## LD r,d8 (R162) -/

theorem loadImm_of_ok {s : State} {rd : Reg8} {v : Byte} (himm : s.imm8 = .ok v) :
    loadImm rd s = .next (done { s with regs := s.regs.set rd v } (s.pc + 2) s.cfg.cyc.ldRD8) := by
  rw [loadImm, himm, onOk_ok, retire_eq_done]
  rfl

theorem loadImm_of_error {s : State} {rd : Reg8} {f : Fault} (himm : s.imm8 = .error f) : loadImm rd s = .fault f := by
  rw [loadImm, himm, onOk_error]

/-! ## Loads from memory -/

/-- Every listed load loads its register from its operand, with the operand's length. -/
theorem exec_of_mem_memoryLoads {s : State} {row : MemoryForm} (h : row ∈ memoryLoads s.cfg.cyc) :
    exec row.instr s = loadMem row.register row.operand row.cost s ∧ row.length = memOperandLength row.operand := by
  fin_cases h <;> exact ⟨rfl, rfl⟩

theorem loadMem_of_ok {s : State} {rd : Reg8} {m : MemOperand} {cost : Nat} {addr : Word} {v : Byte}
    (haddr : s.effAddr m = .ok addr) (hread : s.memRead addr = .ok v) :
    loadMem rd m cost s =
      .next (done { s with regs := afterPost m addr (s.regs.set rd v) } (s.pc + memOperandLength m) cost) := by
  rw [loadMem, haddr, onOk_ok, hread, onOk_ok, postEffect_eq_afterPost, retire_eq_done]
  rfl

theorem loadMem_of_addr_error {s : State} {rd : Reg8} {m : MemOperand} {cost : Nat} {f : Fault}
    (haddr : s.effAddr m = .error f) : loadMem rd m cost s = .fault f := by
  rw [loadMem, haddr, onOk_error]

theorem loadMem_of_unmapped {s : State} {rd : Reg8} {m : MemOperand} {cost : Nat} {addr : Word}
    (haddr : s.effAddr m = .ok addr) (hun : ¬ s.mapped addr) : loadMem rd m cost s = .fault (.unmappedAccess addr) := by
  rw [loadMem, haddr, onOk_ok, State.memRead_of_unmapped (not_not.mp hun), onOk_error]

/-! ## Stores to memory -/

/-- Every listed store stores its register to its operand, with the operand's length. -/
theorem exec_of_mem_memoryStores {s : State} {row : MemoryForm} (h : row ∈ memoryStores s.cfg.cyc) :
    exec row.instr s = storeMem row.operand (s.reg row.register) row.cost s ∧ row.length = memOperandLength row.operand := by
  fin_cases h <;> exact ⟨rfl, rfl⟩

/-- The write completes, and what it leaves alone includes PC and the registers. -/
theorem storeMem_of_mapped {s : State} {m : MemOperand} {v : Byte} {cost : Nat} {addr : Word} (hs : s.arraysOk = true)
    (haddr : s.effAddr m = .ok addr) (hmapped : s.mapped addr) :
    ∃ u, Wrote s [(addr, v)] u ∧
      storeMem m v cost s =
        .next (done { u with regs := afterPost m addr s.regs } (s.pc + memOperandLength m) cost) := by
  obtain ⟨u, hwrite⟩ := State.memWrite_ok_of_mapped v hmapped
  have hsame := State.memWrite_same hwrite
  refine ⟨u, wrote_of_memWrite hs hwrite, ?_⟩
  rw [storeMem, haddr, onOk_ok, hwrite, onOk_ok, postEffect_eq_afterPost, retire_eq_done, hsame.regs, hsame.pc]

theorem storeMem_of_addr_error {s : State} {m : MemOperand} {v : Byte} {cost : Nat} {f : Fault}
    (haddr : s.effAddr m = .error f) : storeMem m v cost s = .fault f := by
  rw [storeMem, haddr, onOk_error]

theorem storeMem_of_unmapped {s : State} {m : MemOperand} {v : Byte} {cost : Nat} {addr : Word}
    (haddr : s.effAddr m = .ok addr) (hun : ¬ s.mapped addr) : storeMem m v cost s = .fault (.unmappedAccess addr) := by
  rw [storeMem, haddr, onOk_ok, State.memWrite_of_unmapped (not_not.mp hun), onOk_error]

/-! ## LD (HL),d8 (R165) -/

theorem storeImm_of_mapped {s : State} {v : Byte} (hs : s.arraysOk = true) (himm : s.imm8 = .ok v)
    (hmapped : s.mapped (s.pair .HL)) :
    ∃ u, Wrote s [(s.pair .HL, v)] u ∧ storeImm s = .next (done u (s.pc + 2) s.cfg.cyc.ldHlD8) := by
  obtain ⟨u, hwrite⟩ := State.memWrite_ok_of_mapped v hmapped
  refine ⟨u, wrote_of_memWrite hs hwrite, ?_⟩
  rw [storeImm, himm, onOk_ok, hwrite, onOk_ok, retire_eq_done, (State.memWrite_same hwrite).pc]

theorem storeImm_of_imm_error {s : State} {f : Fault} (himm : s.imm8 = .error f) : storeImm s = .fault f := by
  rw [storeImm, himm, onOk_error]

theorem storeImm_of_unmapped {s : State} {v : Byte} (himm : s.imm8 = .ok v) (hun : ¬ s.mapped (s.pair .HL)) :
    storeImm s = .fault (.unmappedAccess (s.pair .HL)) := by
  rw [storeImm, himm, onOk_ok, State.memWrite_of_unmapped (not_not.mp hun), onOk_error]

end Sys2Proof.Claims
end

section
/-! The statements of 42_load8.md: O42, O43, O44, O45. -/

namespace Sys2Proof.Proofs

open Sys2Proof.Machine Sys2Proof.Claims

/-- Settles O42: the pairs are the model's, the window's addresses are sums, and an immediate word or its fault is the model's. -/
theorem memoryOperandAddresses : Obligations.MemoryOperandAddresses := by
  intro s
  simp only [wordOf_eq_joinBytes, ← windowAddr_eq]
  exact ⟨rfl, rfl, rfl, rfl, rfl, rfl, fun _ => State.effAddr_inda8_of_ok, fun _ => State.effAddr_inda8_of_error,
    fun _ => imm16_of_immWord, fun _ => imm16_of_immWordFault⟩

/-- Settles O43: LD r,r' is a register write by definition, and LD r,d8 is the model's load of its immediate. -/
theorem registerLoads : Obligations.RegisterLoads := by
  intro s rd
  rw [exec_ldRegD8]
  exact ⟨fun rs => exec_ldRegReg rd rs s, fun _ => loadImm_of_ok, fun _ => loadImm_of_error⟩

/-- Settles O44: every listed load is the model's load from its operand. -/
theorem loadsFromMemory : Obligations.LoadsFromMemory := by
  intro s row hrow
  obtain ⟨hexec, hlength⟩ := exec_of_mem_memoryLoads hrow
  rw [hexec, hlength]
  exact ⟨fun _ _ => loadMem_of_ok, fun _ => loadMem_of_addr_error, fun _ => loadMem_of_unmapped⟩

/-- Settles O45: every listed store is the model's store to its operand; LD (HL),d8 is its store of the immediate at HL. -/
theorem storesToMemory : Obligations.StoresToMemory := by
  intro s
  simp only [wordOf_eq_joinBytes, exec_ld_indHL_d8]
  refine ⟨fun row hrow => ?_, fun _ => storeImm_of_mapped, fun _ => storeImm_of_imm_error, fun _ => storeImm_of_unmapped⟩
  obtain ⟨hexec, hlength⟩ := exec_of_mem_memoryStores hrow
  rw [hexec, hlength]
  exact ⟨fun _ => storeMem_of_mapped, fun _ => storeMem_of_addr_error, fun _ => storeMem_of_unmapped⟩

end Sys2Proof.Proofs
end

section
/-! SUPPORT for the statements of 43_load16_stack.md: two bus writes as the claims' writes, one rule each for what a push, a pop and the
store of SP do, and what lies on top of the stack after a push. -/

namespace Sys2Proof.Machine

/-! ## A second write (R56) -/

theorem State.mapped_of_isRam {s : State} {a : Word} (h : s.isRam a) : s.mapped a := by
  intro hnone
  simp [State.isRam, hnone] at h

theorem State.memWrite_memWrite_of_unmapped {s u : State} {a b : Word} {v : Byte} (h : s.memWrite a v = .ok u)
    (hun : ¬ s.mapped b) (w : Byte) : u.memWrite b w = .error (.unmappedAccess b) :=
  State.memWrite_of_unmapped ((State.region_memWrite h b).trans (not_not.mp hun)) w

/-! ## Two-byte writes and the stack (R11, R193) -/

theorem State.memWrite2_of_low_unmapped {s : State} {a : Word} (hun : ¬ s.mapped a) (v : Word) :
    s.memWrite2 a v = .error (.unmappedAccess a) := by
  simp only [State.memWrite2, State.memWrite_of_unmapped (not_not.mp hun)]

theorem State.memWrite2_of_high_unmapped {s : State} {a : Word} (hlow : s.mapped a) (hun : ¬ s.mapped (a + 1)) (v : Word) :
    s.memWrite2 a v = .error (.unmappedAccess (a + 1)) := by
  obtain ⟨u, hwrite⟩ := State.memWrite_ok_of_mapped (lowByte v) hlow
  simp only [State.memWrite2, hwrite, State.memWrite_memWrite_of_unmapped hwrite hun]

theorem State.push16_of_high_unmapped {s : State} (hun : ¬ s.mapped (s.sp - 1)) (v : Word) :
    s.push16 v = .error (.unmappedAccess (s.sp - 1)) := by
  simp only [State.push16, State.memWrite_of_unmapped (not_not.mp hun)]

theorem State.push16_of_low_unmapped {s : State} (hhigh : s.mapped (s.sp - 1)) (hun : ¬ s.mapped (s.sp - 2)) (v : Word) :
    s.push16 v = .error (.unmappedAccess (s.sp - 2)) := by
  obtain ⟨u, hwrite⟩ := State.memWrite_ok_of_mapped (highByte v) hhigh
  simp only [State.push16, hwrite, State.memWrite_memWrite_of_unmapped hwrite hun]

theorem State.pop16_of_ok {s : State} {v : Word} (h : s.memRead2 s.sp = .ok v) : s.pop16 = .ok (v, s.setSp (s.sp + 2)) := by
  simp only [State.pop16, h]

theorem State.pop16_of_error {s : State} {f : Fault} (h : s.memRead2 s.sp = .error f) : s.pop16 = .error f := by
  simp only [State.pop16, h]

/-! ## The instructions (R190, R197, R198) -/

theorem exec_ld16 (x : Reg16) (s : State) : exec (Instr.ld16 x) s = loadWordImm x s := by
  cases x <;> rfl

theorem exec_pop (p : Pair) (s : State) : exec (Instr.pop p) s = popWord (fun t v => t.setPair p v) s := by
  cases p <;> rfl

theorem exists_exec_eq_popWord {i : Instr} (h : i ∈ [Instr.pop_BC, .pop_DE, .pop_HL, .pop_AF]) (s : State) :
    ∃ write, exec i s = popWord write s := by
  have hpair (p : Pair) : ∃ write, exec (Instr.pop p) s = popWord write s := ⟨_, exec_pop p s⟩
  fin_cases h
  exacts [hpair .BC, hpair .DE, hpair .HL, ⟨State.setAf, rfl⟩]

theorem popWord_of_ok {s : State} {lo hi : Byte} (hlo : s.memRead s.sp = .ok lo) (hhi : s.memRead (s.sp + 1) = .ok hi)
    (write : State → Word → State) :
    popWord write s = .next ((write (s.setSp (s.sp + 2)) (joinBytes hi lo)).retire 1 s.cfg.cyc.pop) := by
  rw [popWord, State.pop16_of_ok (State.memRead2_of_ok hlo hhi), onOk_ok]

theorem popWord_of_error {s : State} {f : Fault} (h : s.pop16 = .error f) (write : State → Word → State) :
    popWord write s = .fault f := by
  rw [popWord, h, onOk_error]

end Sys2Proof.Machine

namespace Sys2Proof.Claims

open Sys2Proof.Machine

/-! ## Two writes in the claims' terms -/

theorem Wrote.regs {s t : State} {ws : List (Word × Byte)} (h : Wrote s ws t) : t.regs = s.regs := by
  rw [h.onlyRam]

theorem Wrote.pc {s t : State} {ws : List (Word × Byte)} (h : Wrote s ws t) : t.pc = s.pc := by
  rw [h.onlyRam]

theorem Wrote.sp {s t : State} {ws : List (Word × Byte)} (h : Wrote s ws t) : t.sp = s.sp := by
  rw [h.onlyRam]

/-- Two completed bus writes to distinct addresses: dispatch is the same for both, and neither hides the other. -/
theorem wrote_of_two_memWrites {s t u : State} {a b : Word} {v w : Byte} (hs : s.arraysOk = true) (hne : a ≠ b)
    (hfirst : s.memWrite a v = .ok t) (hsecond : t.memWrite b w = .ok u) : Wrote s [(a, v), (b, w)] u := by
  have hsame := (State.memWrite_same hfirst).trans (State.memWrite_same hsecond)
  refine ⟨hsame.eq_withRam, fun c => ?_⟩
  have hram : t.isRam b ↔ s.isRam b := by simp only [State.isRam, State.region_memWrite hfirst]
  simp only [State.memRead_memWrite (State.memWrite_arraysOk hs hfirst) hsecond, State.memRead_memWrite hs hfirst, hram,
    readAfter]
  by_cases hc : c = a
  · simp only [hc, hne, false_and, if_false]
  · simp only [hc, false_and, if_false]

theorem exists_wrote_of_mapped {s : State} {a b : Word} (v w : Byte) (hs : s.arraysOk = true) (hne : a ≠ b) (ha : s.mapped a)
    (hb : s.mapped b) : ∃ t u, s.memWrite a v = .ok t ∧ t.memWrite b w = .ok u ∧ Wrote s [(a, v), (b, w)] u := by
  obtain ⟨t, hfirst⟩ := State.memWrite_ok_of_mapped v ha
  have hb' : t.mapped b := by rwa [State.mapped, State.region_memWrite hfirst]
  obtain ⟨u, hsecond⟩ := State.memWrite_ok_of_mapped w hb'
  exact ⟨t, u, hfirst, hsecond, wrote_of_two_memWrites hs hne hfirst hsecond⟩

/-! ## LD rr,d16 (R190) -/

theorem loadWordImm_of_ok {s : State} {w : Word} (himm : s.imm16 = .ok w) (x : Reg16) :
    loadWordImm x s = .next (done (with16 s x w) (s.pc + 3) s.cfg.cyc.ldRrD16) := by
  rw [loadWordImm, himm, onOk_ok, retire_setReg16]

theorem loadWordImm_of_error {s : State} {f : Fault} (himm : s.imm16 = .error f) (x : Reg16) : loadWordImm x s = .fault f := by
  rw [loadWordImm, himm, onOk_error]

/-! ## LD (a16),SP (R191) -/

theorem storeSp_of_mapped {s : State} {addr : Word} (hs : s.arraysOk = true) (himm : s.imm16 = .ok addr)
    (hlow : s.mapped addr) (hhigh : s.mapped (addr + 1)) :
    ∃ u, Wrote s [(addr, lowByte s.sp), (addr + 1, highByte s.sp)] u ∧
      storeSp s = .next (done u (s.pc + 3) s.cfg.cyc.ldA16Sp) := by
  have hne : addr ≠ addr + 1 := by bv_omega
  obtain ⟨t, u, hfirst, hsecond, hwrote⟩ := exists_wrote_of_mapped (lowByte s.sp) (highByte s.sp) hs hne hlow hhigh
  have hwrite : s.memWrite2 addr s.sp = .ok u := by simp only [State.memWrite2, hfirst, hsecond]
  refine ⟨u, hwrote, ?_⟩
  rw [storeSp, himm, onOk_ok, hwrite, onOk_ok, retire_eq_done, hwrote.pc]

theorem storeSp_of_imm_error {s : State} {f : Fault} (himm : s.imm16 = .error f) : storeSp s = .fault f := by
  rw [storeSp, himm, onOk_error]

theorem storeSp_of_write_error {s : State} {addr : Word} {f : Fault} (himm : s.imm16 = .ok addr)
    (hwrite : s.memWrite2 addr s.sp = .error f) : storeSp s = .fault f := by
  rw [storeSp, himm, onOk_ok, hwrite, onOk_error]

/-! ## Pushing (R193, R194, R196) -/

theorem push16_of_mapped {s : State} (v : Word) (hs : s.arraysOk = true) (hhigh : s.mapped (s.sp - 1))
    (hlow : s.mapped (s.sp - 2)) :
    ∃ u, Wrote s [(s.sp - 1, highByte v), (s.sp - 2, lowByte v)] u ∧ s.push16 v = .ok { u with sp := s.sp - 2 } := by
  have hne : s.sp - 1 ≠ s.sp - 2 := by bv_omega
  obtain ⟨t, u, hfirst, hsecond, hwrote⟩ := exists_wrote_of_mapped (highByte v) (lowByte v) hs hne hhigh hlow
  refine ⟨u, hwrote, ?_⟩
  simp only [State.push16, hfirst, hsecond]
  rfl

/-- An instruction that pushes `v` and then only ends (at `pc`, with this cost) has the claims' shape. -/
theorem pushDoes_of_push16 {s : State} {instr : Instr} {v pc : Word} {cost : Nat} {finish : State → State}
    (hexec : exec instr s = onOk (s.push16 v) fun t => .next (finish t))
    (hfinish : ∀ t : State, t.pc = s.pc → finish t = done t pc cost) :
    PushDoes s (highByte v) (lowByte v) instr pc cost := by
  refine ⟨fun hs hhigh hlow => ?_, fun hun => ?_, fun hhigh hun => ?_⟩
  · obtain ⟨u, hwrote, hpush⟩ := push16_of_mapped v hs hhigh hlow
    refine ⟨u, hwrote, ?_⟩
    rw [hexec, hpush, onOk_ok, hfinish { u with sp := s.sp - 2 } hwrote.pc]
  · rw [hexec, State.push16_of_high_unmapped hun, onOk_error]
  · rw [hexec, State.push16_of_low_unmapped hhigh hun, onOk_error]

/-- PUSH of the word with these bytes. -/
theorem pushDoes_of_pushWord {s : State} {instr : Instr} {hi lo : Byte} (hexec : exec instr s = pushWord (joinBytes hi lo) s) :
    PushDoes s hi lo instr (s.pc + 1) s.cfg.cyc.push := by
  have hfinish (t : State) (hpc : t.pc = s.pc) : t.retire 1 s.cfg.cyc.push = done t (s.pc + 1) s.cfg.cyc.push := by
    rw [retire_eq_done, hpc]
  have hdoes := pushDoes_of_push16 hexec hfinish
  rwa [highByte_joinBytes, lowByte_joinBytes] at hdoes

/-! ## Popping (R193, R197, R198) -/

/-- The claims' stack word is the model's. -/
theorem memRead2_sp_of_stackWord {s : State} {w : Word} (h : StackWord s w) : s.memRead2 s.sp = .ok w := by
  obtain ⟨lo, hi, hlo, hhi, rfl⟩ := h
  rw [wordOf_eq_joinBytes]
  exact State.memRead2_of_ok hlo hhi

/-- The claims' fault of the stack word is the model's. -/
theorem memRead2_sp_of_stackFault {s : State} {f : Fault} (h : StackFault s f) : s.memRead2 s.sp = .error f := by
  obtain hlo | ⟨lo, hlo, hhi⟩ := h
  · exact State.memRead2_of_low_error hlo
  · exact State.memRead2_of_high_error hlo hhi

/-- POP of a pair writes each byte into its own register. -/
theorem exec_pop_of_ok {s : State} {lo hi : Byte} (hlo : s.memRead s.sp = .ok lo) (hhi : s.memRead (s.sp + 1) = .ok hi)
    (p : Pair) :
    exec (Instr.pop p) s =
      .next (done { s with sp := s.sp + 2, regs := (s.regs.set (pairHigh p) hi).set (pairLow p) lo } (s.pc + 1)
        s.cfg.cyc.pop) := by
  rw [exec_pop, popWord_of_ok hlo hhi, State.setPair, highByte_joinBytes, lowByte_joinBytes]
  rfl

/-- POP AF unpacks the low byte into the flags (D13). -/
theorem exec_pop_AF_of_ok {s : State} {lo hi : Byte} (hlo : s.memRead s.sp = .ok lo) (hhi : s.memRead (s.sp + 1) = .ok hi) :
    exec .pop_AF s =
      .next (done { s with sp := s.sp + 2, regs := { s.regs with a := hi }, flags := Flags.ofByte lo } (s.pc + 1)
        s.cfg.cyc.pop) := by
  have hexec : exec .pop_AF s = popWord State.setAf s := rfl
  rw [hexec, popWord_of_ok hlo hhi, State.setAf, highByte_joinBytes, lowByte_joinBytes]
  rfl

/-- After a push onto read-write memory, both bytes are read back. -/
theorem Wrote.read_pushed {s u : State} {hi lo : Byte} (h : Wrote s [(s.sp - 1, hi), (s.sp - 2, lo)] u)
    (hhigh : s.isRam (s.sp - 1)) (hlow : s.isRam (s.sp - 2)) :
    u.memRead (s.sp - 2) = .ok lo ∧ u.memRead (s.sp - 2 + 1) = .ok hi := by
  have hne : s.sp - 2 ≠ s.sp - 1 := by bv_omega
  have hnext : s.sp - 2 + 1 = s.sp - 1 := by bv_omega
  rw [hnext, h.reads, h.reads]
  exact ⟨by simp only [readAfter, hne, hlow, false_and, and_self, if_true, if_false],
    by simp only [readAfter, hhigh, and_self, if_true]⟩

/-- Popping after a push onto read-write memory gives the word, and SP back where it was (R193). -/
theorem pop16_of_pushed {s u : State} {v : Word} (h : Wrote s [(s.sp - 1, highByte v), (s.sp - 2, lowByte v)] u)
    (hhigh : s.isRam (s.sp - 1)) (hlow : s.isRam (s.sp - 2)) : State.pop16 { u with sp := s.sp - 2 } = .ok (v, u) := by
  obtain ⟨hlo, hhi⟩ := h.read_pushed hhigh hlow
  have hread : State.memRead2 { u with sp := s.sp - 2 } (s.sp - 2) = .ok v := by
    rw [← joinBytes_high_low v]
    exact State.memRead2_of_ok hlo hhi
  have hback : s.sp - 2 + 2 = u.sp := (sub_add_cancel s.sp 2).trans h.sp.symm
  rw [State.pop16_of_ok hread]
  simp only [State.setSp, hback]

end Sys2Proof.Claims
end

section
/-! The statements of 43_load16_stack.md: O21, O46, O47, O48, O49, O22. -/

namespace Sys2Proof.Proofs

open Sys2Proof.Machine Sys2Proof.Claims

/-- Settles O21: a push is two writes to distinct addresses, a pop reads both back, and `SP - 2 + 2` is SP. -/
theorem stackPrimitives : Obligations.StackPrimitives := by
  intro s v
  rw [highOf_eq_highByte, lowOf_eq_lowByte]
  refine ⟨fun hs hhigh hlow => ?_, fun w hword => State.pop16_of_ok (memRead2_sp_of_stackWord hword)⟩
  obtain ⟨u, hwrote, hpush⟩ := push16_of_mapped v hs hhigh hlow
  exact ⟨u, hwrote, hpush, pop16_of_pushed hwrote⟩

/-- Settles O46: the immediate word or its fault is the model's, and so is HL. -/
theorem wordLoads : Obligations.WordLoads := by
  intro s
  simp only [exec_ld16, wordOf_eq_joinBytes]
  exact ⟨fun x _ himm => loadWordImm_of_ok (imm16_of_immWord himm) x,
    fun x _ himm => loadWordImm_of_error (imm16_of_immWordFault himm) x, rfl⟩

/-- Settles O47: with the immediate read, the outcome is that of the two writes, low byte first. -/
theorem storeOfSp : Obligations.StoreOfSp := by
  intro s
  have hexec : exec .ld_inda16_SP s = storeSp s := rfl
  rw [hexec, highOf_eq_highByte, lowOf_eq_lowByte]
  exact ⟨fun _ hs himm => storeSp_of_mapped hs (imm16_of_immWord himm),
    fun _ himm => storeSp_of_imm_error (imm16_of_immWordFault himm),
    fun _ himm hun => storeSp_of_write_error (imm16_of_immWord himm) (State.memWrite2_of_low_unmapped hun s.sp),
    fun _ himm hlow hun => storeSp_of_write_error (imm16_of_immWord himm) (State.memWrite2_of_high_unmapped hlow hun s.sp)⟩

/-- Settles O48: each of the four pushes the word with its two bytes. -/
theorem pushStoresAWord : Obligations.PushStoresAWord := fun _ =>
  ⟨pushDoes_of_pushWord rfl, pushDoes_of_pushWord rfl, pushDoes_of_pushWord rfl, pushDoes_of_pushWord rfl⟩

/-- Settles O49: each of the four pops the word at SP and writes its two bytes; a read that fails is the whole outcome. -/
theorem popLoadsAWord : Obligations.PopLoadsAWord := by
  intro s
  refine ⟨fun _ _ hlo hhi => ?_, fun f hfault i hmem => ?_⟩
  · have hpair (p : Pair) := exec_pop_of_ok hlo hhi p
    exact ⟨hpair .BC, hpair .DE, hpair .HL, exec_pop_AF_of_ok hlo hhi⟩
  · obtain ⟨write, hexec⟩ := exists_exec_eq_popWord hmem s
    rw [hexec, popWord_of_error (State.pop16_of_error (memRead2_sp_of_stackFault hfault))]

/-- Settles O22: PUSH BC leaves B and C readable on top of the stack, and POP HL loads them. -/
theorem pushBcPopHlCopies : Obligations.PushBcPopHlCopies := by
  intro s hs hhigh hlow
  obtain ⟨⟨hpush, -⟩, -⟩ := pushStoresAWord s
  obtain ⟨u, hwrote, hexec⟩ := hpush hs (State.mapped_of_isRam hhigh) (State.mapped_of_isRam hlow)
  obtain ⟨hlo, hhi⟩ := hwrote.read_pushed hhigh hlow
  have hpop := exec_pop_of_ok (s := done { u with sp := s.sp - 2 } (s.pc + 1) s.cfg.cyc.push) hlo hhi .HL
  refine ⟨_, _, hexec, hpop, ?_, sub_add_cancel s.sp 2⟩
  rw [← hwrote.regs]
  rfl

end Sys2Proof.Proofs
end

section
/-! SUPPORT for the statements of 44_control.md: a conditional transfer by its condition, one rule each for what a jump, a call and a
return do, and the relative target as a sum of integers. -/

namespace Sys2Proof.Machine

/-! ## The conditional transfers (R212, R215, R217, R219, D16) -/

theorem exec_jpCc (cc : Cond) (s : State) :
    exec (Instr.jpCc cc) s = if s.flags.holds cc then jumpAbs s else .next (s.retire 3 s.cfg.cyc.jpNotTaken) := by
  cases cc <;> rfl

theorem exec_jrCc (cc : Cond) (s : State) :
    exec (Instr.jrCc cc) s = if s.flags.holds cc then jumpRel s else .next (s.retire 2 s.cfg.cyc.jrNotTaken) := by
  cases cc <;> rfl

theorem exec_callCc (cc : Cond) (s : State) :
    exec (Instr.callCc cc) s = if s.flags.holds cc then callAbs s else .next (s.retire 3 s.cfg.cyc.callNotTaken) := by
  cases cc <;> rfl

theorem exec_retCc (cc : Cond) (s : State) :
    exec (Instr.retCc cc) s =
      if s.flags.holds cc then returnTo s.cfg.cyc.retCcTaken s else .next (s.retire 1 s.cfg.cyc.retCcNotTaken) := by
  cases cc <;> rfl

/-! ## The transfers that fault (R211, R214, R216, R218) -/

theorem jumpAbs_of_error {s : State} {f : Fault} (himm : s.imm16 = .error f) : jumpAbs s = .fault f := by
  rw [jumpAbs, himm, onOk_error]

theorem jumpRel_of_error {s : State} {f : Fault} (himm : s.imm8 = .error f) : jumpRel s = .fault f := by
  rw [jumpRel, himm, onOk_error]

theorem callAbs_of_error {s : State} {f : Fault} (himm : s.imm16 = .error f) : callAbs s = .fault f := by
  rw [callAbs, himm, onOk_error]

theorem returnTo_of_error {s : State} {f : Fault} (hpop : s.pop16 = .error f) (cost : Nat) : returnTo cost s = .fault f := by
  rw [returnTo, hpop, onOk_error]

/-! ## The relative target (R214, D8) -/

/-- Adding the sign-extended displacement modulo 65536 is adding the signed number. -/
theorem relTarget_eq (pc : Word) (e : Byte) : relTarget pc e = BitVec.ofInt 16 ((pc.toNat : Int) + 2 + e.toInt) := by
  rw [BitVec.ofInt_add, BitVec.ofInt_add, BitVec.ofInt_natCast, BitVec.ofNat_toNat, BitVec.setWidth_eq]
  rfl

end Sys2Proof.Machine

namespace Sys2Proof.Claims

open Sys2Proof.Machine

/-! ## The transfers that complete, in the claims' terms -/

/-- A transfer of control is the claims' end of an instruction. -/
theorem jump_eq_done (s : State) (target : Word) (n : Nat) : s.jump target n = done s target n := rfl

theorem jumpAbs_of_ok {s : State} {w : Word} (himm : s.imm16 = .ok w) : jumpAbs s = .next (done s w s.cfg.cyc.jpTaken) := by
  rw [jumpAbs, himm, onOk_ok, jump_eq_done]

theorem jumpRel_of_ok {s : State} {e : Byte} (himm : s.imm8 = .ok e) :
    jumpRel s = .next (done s (BitVec.ofInt 16 ((s.pc.toNat : Int) + 2 + e.toInt)) s.cfg.cyc.jrTaken) := by
  rw [jumpRel, himm, onOk_ok, jump_eq_done, relTarget_eq]

/-- With the target read, a call is a push of the return address that ends at the target. -/
theorem pushDoes_of_callAbs {s : State} {instr : Instr} {w : Word} (hexec : exec instr s = callAbs s) (himm : s.imm16 = .ok w) :
    PushDoes s (highByte (s.pc + 3)) (lowByte (s.pc + 3)) instr w s.cfg.cyc.callTaken := by
  rw [callAbs, himm, onOk_ok] at hexec
  exact pushDoes_of_push16 hexec fun t _ => jump_eq_done t w s.cfg.cyc.callTaken

theorem returnTo_of_ok {s : State} {w : Word} (hread : s.memRead2 s.sp = .ok w) (cost : Nat) :
    returnTo cost s = .next (done { s with sp := s.sp + 2 } w cost) := by
  rw [returnTo, State.pop16_of_ok hread, onOk_ok]
  rfl

end Sys2Proof.Claims
end

section
/-! The statements of 44_control.md: O50, O51, O52, O53, O54. -/

namespace Sys2Proof.Proofs

open Sys2Proof.Machine Sys2Proof.Claims

/-- Settles O50: Z and C are their flag, NZ and NC its negation. -/
theorem conditionsReadTheFlags : Obligations.ConditionsReadTheFlags := fun f =>
  ⟨Iff.rfl, (Bool.not_eq_true' f.z).to_iff, Iff.rfl, (Bool.not_eq_true' f.c).to_iff⟩

/-- Settles O51: the immediate word or its fault is the model's, and a true condition makes JP cc the same jump. -/
theorem absoluteJumps : Obligations.AbsoluteJumps := by
  intro s
  have htaken {cc : Cond} (hcc : s.flags.holds cc = true) : exec (Instr.jpCc cc) s = jumpAbs s :=
    (exec_jpCc cc s).trans (if_pos hcc)
  refine ⟨fun w himm => ?_, fun f hfault => ?_, fun cc hcc => ?_, ?_⟩
  · have hjump := jumpAbs_of_ok (imm16_of_immWord himm)
    exact ⟨hjump, fun _ hcc => (htaken hcc).trans hjump⟩
  · have hjump := jumpAbs_of_error (imm16_of_immWordFault hfault)
    exact ⟨hjump, fun _ hcc => (htaken hcc).trans hjump⟩
  · rw [exec_jpCc, if_neg (ne_true_of_eq_false hcc), retire_eq_done]
  · rw [wordOf_eq_joinBytes]
    rfl

/-- Settles O52: the model's target is the signed sum, and a true condition makes JR cc the same jump. -/
theorem relativeJumps : Obligations.RelativeJumps := by
  intro s
  have htaken {cc : Cond} (hcc : s.flags.holds cc = true) : exec (Instr.jrCc cc) s = jumpRel s :=
    (exec_jrCc cc s).trans (if_pos hcc)
  refine ⟨fun e himm => ?_, fun f hfault => ?_, fun cc hcc => ?_⟩
  · have hjump := jumpRel_of_ok himm
    exact ⟨hjump, fun _ hcc => (htaken hcc).trans hjump⟩
  · have hjump := jumpRel_of_error hfault
    exact ⟨hjump, fun _ hcc => (htaken hcc).trans hjump⟩
  · rw [exec_jrCc, if_neg (ne_true_of_eq_false hcc), retire_eq_done]

/-- Settles O53: a call is a push of the return address, and a true condition makes CALL cc the same call. -/
theorem callsPushTheReturnAddress : Obligations.CallsPushTheReturnAddress := by
  intro s
  have htaken {cc : Cond} (hcc : s.flags.holds cc = true) : exec (Instr.callCc cc) s = callAbs s :=
    (exec_callCc cc s).trans (if_pos hcc)
  rw [highOf_eq_highByte, lowOf_eq_lowByte]
  refine ⟨fun w himm => ?_, fun f hfault => ?_, fun cc hcc => ?_⟩
  · have hword := imm16_of_immWord himm
    exact ⟨pushDoes_of_callAbs rfl hword, fun _ hcc => pushDoes_of_callAbs (htaken hcc) hword⟩
  · have hcall := callAbs_of_error (imm16_of_immWordFault hfault)
    exact ⟨hcall, fun _ hcc => (htaken hcc).trans hcall⟩
  · rw [exec_callCc, if_neg (ne_true_of_eq_false hcc), retire_eq_done]

/-- Settles O54: the stack word or its fault is the model's, and a true condition makes RET cc a return at its own cost. -/
theorem returnsPopPc : Obligations.ReturnsPopPc := by
  intro s
  have htaken {cc : Cond} (hcc : s.flags.holds cc = true) : exec (Instr.retCc cc) s = returnTo s.cfg.cyc.retCcTaken s :=
    (exec_retCc cc s).trans (if_pos hcc)
  refine ⟨fun w hword => ?_, fun f hfault => ?_, fun cc hcc => ?_⟩
  · have hret := returnTo_of_ok (memRead2_sp_of_stackWord hword)
    exact ⟨hret _, fun _ hcc => (htaken hcc).trans (hret _)⟩
  · have hret := returnTo_of_error (State.pop16_of_error (memRead2_sp_of_stackFault hfault))
    exact ⟨hret _, fun _ hcc => (htaken hcc).trans (hret _)⟩
  · rw [exec_retCc, if_neg (ne_true_of_eq_false hcc), retire_eq_done]

end Sys2Proof.Proofs
end

section
/-! SUPPORT for the statements of 45_bit_rotate.md: the shifted bits and bytes as numbers, the prefixed rotates as operations that
modify their operand, and one rule for what BIT does, whatever its operand. -/

namespace Sys2Proof.Machine

/-! ## The instructions (R232 to R241) -/

/-- The descriptor of each kind and operand form uses the prefixed rotate with that kind and form. -/
theorem formOf_rot (k : RotOp) (x : Loc8) : formOf (Instr.rot k x) = .rot k x := by
  cases x with
  | reg r => cases k <;> cases r <;> rfl
  | indHL => cases k <;> rfl

/-- The prefixed rotates share the read, write-back and flags of INC and DEC; only operation, length and costs differ. -/
theorem exec_rot (k : RotOp) (x : Loc8) (s : State) :
    exec (Instr.rot k x) s = modifyLoc8 (rotByte k · s.flags.c) 2 s.cfg.cyc.cbRotR s.cfg.cyc.cbRotHl x s := by
  rw [exec_eq_run, formOf_rot]
  rfl

/-- An accumulator rotate writes to A what the prefixed rotate of its kind makes of it, and of that one's flags only c. -/
theorem exec_accumulatorRotate {row : Instr × RotOp} (s : State)
    (h : row ∈ [(Instr.rlca, RotOp.rlc), (.rla, .rl), (.rrca, .rrc), (.rra, .rr)]) :
    exec row.1 s =
      .next (((s.setReg .A (rotByte row.2 s.regs.a s.flags.c).value).setFlags
        ⟨false, false, false, (rotByte row.2 s.regs.a s.flags.c).flags.c⟩).retire 1 s.cfg.cyc.rotA) := by
  fin_cases h <;> rfl

/-- The descriptor of each bit and operand form uses the bit test with that bit and form. -/
theorem formOf_bit (b : Fin 8) (x : Loc8) : formOf (Instr.bit b x) = .bit b x := by
  cases x with
  | reg r => fin_cases b <;> cases r <;> rfl
  | indHL => fin_cases b <;> rfl

theorem exec_bit (b : Fin 8) (x : Loc8) (s : State) : exec (Instr.bit b x) s = bitInstr b x s := by
  rw [exec_eq_run, formOf_bit]
  rfl

end Sys2Proof.Machine

namespace Sys2Proof.Claims

open Sys2Proof.Machine

/-! ## The rotated byte and the bit shifted out (R231, D12) -/

theorem getLsbD_seven_eq_shiftedOut (v : Byte) : v.getLsbD 7 = shiftedOut v true :=
  (BitVec.msb_eq_getLsbD_last v).symm.trans (BitVec.msb_eq_decide v)

theorem getLsbD_zero_eq_shiftedOut (v : Byte) : v.getLsbD 0 = shiftedOut v false := Nat.testBit_zero v.toNat

/-- The left shift vacates bit 0, so the incoming bit is added. -/
theorem shiftLeft_or_eq_rotated (v : Byte) (inBit : Bool) : v <<< 1 ||| BitVec.ofNat 8 inBit.toNat = rotated v true inBit := by
  have hsum : v.toNat <<< 1 + inBit.toNat = v.toNat <<< 1 ||| inBit.toNat := Nat.shiftLeft_add_eq_or_of_lt inBit.toNat_lt v.toNat
  calc v <<< 1 ||| BitVec.ofNat 8 inBit.toNat
    _ = BitVec.ofNat 8 (v.toNat <<< 1 ||| inBit.toNat) := (BitVec.ofNat_or ..).symm
    _ = BitVec.ofNat 8 (v.toNat * 2 + inBit.toNat) := by rw [← hsum, Nat.shiftLeft_eq, pow_one]

/-- The right shift vacates bit 7, so 128 times the incoming bit is added. -/
theorem shiftRight_or_eq_rotated (v : Byte) (inBit : Bool) :
    v >>> 1 ||| BitVec.ofNat 8 inBit.toNat <<< 7 = rotated v false inBit := by
  have hv : v.toNat >>> 1 < 2 ^ 7 := by omega
  have hsum : inBit.toNat <<< 7 + v.toNat >>> 1 = inBit.toNat <<< 7 ||| v.toNat >>> 1 :=
    Nat.shiftLeft_add_eq_or_of_lt hv inBit.toNat
  have hin : BitVec.ofNat 8 inBit.toNat <<< 7 = BitVec.ofNat 8 (inBit.toNat <<< 7) := by cases inBit <;> rfl
  calc v >>> 1 ||| BitVec.ofNat 8 inBit.toNat <<< 7
    _ = BitVec.ofNat 8 (v.toNat >>> 1) ||| BitVec.ofNat 8 (inBit.toNat <<< 7) := by
      rw [hin, ← BitVec.toNat_ushiftRight, BitVec.ofNat_toNat, BitVec.setWidth_eq]
    _ = BitVec.ofNat 8 (inBit.toNat <<< 7 ||| v.toNat >>> 1) := by rw [BitVec.or_comm, BitVec.ofNat_or]
    _ = BitVec.ofNat 8 (v.toNat / 2 + inBit.toNat * 128) := by
      rw [← hsum, Nat.add_comm, Nat.shiftLeft_eq, Nat.shiftRight_eq_div_pow, pow_one]

/-- The model's prefixed rotate has the claims' result and flags (R237 to R240, D11). -/
theorem rotByte_eq (k : RotOp) (v : Byte) (carry : Bool) : rotByte k v carry = ⟨rotResult k v carry, rotFlags k v carry⟩ := by
  cases k with
  | rlc | rl =>
    simp only [rotByte, rotate, getLsbD_seven_eq_shiftedOut, shiftLeft_or_eq_rotated]
    rfl
  | rrc | rr =>
    simp only [rotByte, rotate, getLsbD_zero_eq_shiftedOut, shiftRight_or_eq_rotated]
    rfl

/-! ## BIT (R241) -/

/-- The complement of bit `b`, as a remainder. -/
theorem bitFlags_eq (b : Fin 8) (v : Byte) (f : Flags) :
    bitFlags b v f = ⟨decide (v.toNat / 2 ^ b.val % 2 = 0), false, false, f.c⟩ := by
  have hbit : v.getLsbD b = decide (v.toNat / 2 ^ b.val % 2 = 1) := Nat.testBit_eq_decide_div_mod_eq
  simp only [bitFlags, hbit, ← decide_not, Nat.mod_two_not_eq_one]

theorem bitInstr_of_ok {s : State} {x : Loc8} {v : Byte} (b : Fin 8) (hread : s.readLoc8 x = .ok v) :
    bitInstr b x s =
      .next (done { s with flags := ⟨decide (v.toNat / 2 ^ b.val % 2 = 0), false, false, s.flags.c⟩ } (s.pc + 2)
        (loc8Cycles s.cfg.cyc.cbBitR s.cfg.cyc.cbBitHl x)) := by
  rw [bitInstr, hread, onOk_ok, bitFlags_eq, retire_eq_done]
  rfl

theorem bitInstr_of_error {s : State} {x : Loc8} {f : Fault} (b : Fin 8) (hread : s.readLoc8 x = .error f) :
    bitInstr b x s = .fault f := by
  rw [bitInstr, hread, onOk_error]

end Sys2Proof.Claims
end

section
/-! The statements of 45_bit_rotate.md: O55, O56, O57. -/

namespace Sys2Proof.Proofs

open Sys2Proof.Machine Sys2Proof.Claims

/-- Settles O55: A and c are those of the prefixed rotate of the same kind. -/
theorem accumulatorRotates : Obligations.AccumulatorRotates := by
  intro s row hrow
  rw [exec_accumulatorRotate s hrow, rotByte_eq, retire_eq_done]
  rfl

/-- Settles O56: a prefixed rotate modifies its operand, and the model's value and flags are the stated ones. -/
theorem prefixedRotates : Obligations.PrefixedRotates := by
  intro s k
  simp only [exec_rot, rotByte_eq]
  exact ⟨fun r => modifyLoc8_reg _ _ _ _ r s,
    fun _ hs hread => modifyLoc8_indHL_ok (fun v => ⟨rotResult k v s.flags.c, rotFlags k v s.flags.c⟩) _ _ _ hs hread,
    fun _ hread => modifyLoc8_indHL_error _ _ _ _ hread⟩

/-- Settles O57: with the claims' address of (HL) written as the model's, each operand is read or its fault is the outcome. -/
theorem bitTests : Obligations.BitTests := by
  intro s b
  simp only [exec_bit, wordOf_eq_joinBytes]
  exact ⟨fun r => bitInstr_of_ok (x := .reg r) b rfl, fun _ => bitInstr_of_ok (x := .indHL) b,
    fun _ => bitInstr_of_error (x := .indHL) b⟩

end Sys2Proof.Proofs
end

section
/-! SUPPORT for the statements of 46_nop_halt_step.md: what a step and its report are in each kind of state, and the fetch of an
instruction whose bytes lie at PC. -/

namespace Sys2Proof.Machine

/-! ## Bytes in memory (R91, R98) -/

/-- These bytes lie in memory at address `a`, `a+1`, … -/
def State.HoldsBytes (s : State) (a : Word) (bs : List Byte) : Prop :=
  ∀ k v, bs[k]? = some v → s.memRead (a + BitVec.ofNat 16 k) = .ok v

theorem State.HoldsBytes.head {s : State} {a : Word} {b : Byte} {bs : List Byte} (h : s.HoldsBytes a (b :: bs)) :
    s.memRead a = .ok b := by
  simpa using h 0 b rfl

theorem State.HoldsBytes.tail {s : State} {a : Word} {b : Byte} {bs : List Byte} (h : s.HoldsBytes a (b :: bs)) :
    s.HoldsBytes (a + 1) bs := by
  intro k v hk
  have haddr : a + BitVec.ofNat 16 (k + 1) = a + 1 + BitVec.ofNat 16 k := by
    rw [BitVec.ofNat_add]
    ac_rfl
  exact haddr ▸ h (k + 1) v hk

/-! ## The fetch (R62, R251) -/

theorem State.fetchInstr_of_base {s : State} {op : Byte} (hread : s.memRead s.pc = .ok op) (hop : op ≠ extendedByte) :
    s.fetchInstr = .ok (decodeBase op) := by
  simp only [State.fetchInstr, hread, if_neg hop]

theorem State.fetchInstr_of_extended {s : State} {op2 : Byte} (hprefix : s.memRead s.pc = .ok extendedByte)
    (hread : s.memRead (s.pc + 1) = .ok op2) : s.fetchInstr = .ok (decodeExtended op2) := by
  simp only [State.fetchInstr, hprefix, hread, if_true]

theorem State.fetchInstr_of_unmapped {s : State} (hun : ¬ s.mapped s.pc) :
    s.fetchInstr = .error (.unmappedAccess s.pc) := by
  simp only [State.fetchInstr, State.memRead_of_unmapped (not_not.mp hun)]

theorem State.fetchInstr_of_extended_unmapped {s : State} (hprefix : s.memRead s.pc = .ok extendedByte)
    (hun : ¬ s.mapped (s.pc + 1)) : s.fetchInstr = .error (.unmappedAccess (s.pc + 1)) := by
  simp only [State.fetchInstr, hprefix, State.memRead_of_unmapped (not_not.mp hun), if_true]

/-- The fetch agrees with the decoder of byte sequences on the bytes at PC. -/
theorem State.fetchInstr_of_decodeOp {s : State} {bs rest : List Byte} {i : Instr} (hbytes : s.HoldsBytes s.pc bs)
    (hdecode : decodeOp bs = .ok (i, rest)) : s.fetchInstr = .ok i := by
  obtain ⟨op, hop, rfl, rfl⟩ | ⟨op2, rfl, rfl⟩ := Laws.decodeOp_eq_ok hdecode
  · exact State.fetchInstr_of_base hbytes.head hop
  · exact State.fetchInstr_of_extended hbytes.head hbytes.tail.head

/-! ## The immediate behind the opcode byte (R90, R91) -/

theorem length_encodeOp (i : Instr) : (encodeOp i).length = if i.format = .CB_OP then 2 else 1 := by
  cases i <;> rfl

/-- An instruction with an immediate has one opcode byte: the prefixed ones have none (R91). -/
theorem encodeOp_eq_singleton {i : Instr} {m : Imm} (hfits : m.fits i.format = true) (hm : m ≠ .none) :
    ∃ op, encodeOp i = [op] := by
  have hformat : i.format ≠ .CB_OP := by
    intro hcb
    rw [hcb] at hfits
    cases m with
    | none => exact hm rfl
    | byte | word => cases hfits
  rw [← List.length_eq_one_iff, length_encodeOp, if_neg hformat]

/-- The bytes of an instruction's immediate lie behind the opcode byte. -/
theorem State.holdsBytes_encodeImm {s : State} {i : Insn} (hbytes : s.HoldsBytes s.pc (encode i)) (hwf : i.wf = true)
    (himm : i.imm ≠ .none) : s.HoldsBytes (s.pc + 1) (encodeImm i.imm) := by
  obtain ⟨-, hfits⟩ := Bool.and_eq_true_iff.mp hwf
  obtain ⟨op, hop⟩ := encodeOp_eq_singleton hfits himm
  rw [encode, hop] at hbytes
  exact hbytes.tail

/-! ## A step and its report (R250, R252, R253, R292) -/

section
variable {s : State}

theorem step_of_latched {f : Fault} (hfault : s.fault = some f) : step s = .fault f := by
  simp only [step, hfault]

theorem report_of_latched {f : Fault} (hfault : s.fault = some f) : s.report = none := by
  simp only [State.report, hfault]

theorem step_of_halted (hfault : s.fault = none) (hrun : s.run = .halted) : step s = .next s := by
  simp only [step, hfault, hrun]

theorem report_of_halted (hfault : s.fault = none) (hrun : s.run = .halted) : s.report = some ⟨none, "", 0, 0, none⟩ := by
  simp only [State.report, hfault, hrun]

theorem step_of_fetchInstr_error {f : Fault} (hfault : s.fault = none) (hrun : s.run = .running)
    (hfetch : s.fetchInstr = .error f) : step s = .next { s with fault := some f } := by
  simp only [step, hfault, hrun, hfetch, State.takeFault]

theorem step_of_fetchInstr_ok {i : Instr} (hfault : s.fault = none) (hrun : s.run = .running)
    (hfetch : s.fetchInstr = .ok i) : step s = s.settle (exec i s) := by
  simp only [step, hfault, hrun, hfetch]

/-- A completed instruction leaves the latch alone. -/
theorem exec_next_fault {t : State} {i : Instr} (h : exec i s = .next t) : t.fault = s.fault := by
  obtain ⟨u, pc, heff, rfl, -⟩ := exec_next h
  exact heff.fault

/-- A step that sets the latch does nothing else, and only a running machine's step sets it. -/
theorem step_latches {t : State} {f : Fault} (hstep : step s = .next t) (hlatch : t.fault = some f) :
    t = { s with fault := some f } ∧ s.run = .running := by
  obtain ⟨hfault, ⟨-, rfl⟩ | ⟨hrun, g, -, rfl⟩ | ⟨hrun, i, -, hexec | ⟨g, -, rfl⟩⟩⟩ := step_next hstep
  · exact absurd (hfault.symm.trans hlatch) nofun
  · exact ⟨congrArg (fun o => { s with fault := o }) hlatch, hrun⟩
  · exact absurd (hfault.symm.trans ((exec_next_fault hexec).symm.trans hlatch)) nofun
  · exact ⟨congrArg (fun o => { s with fault := o }) hlatch, hrun⟩

end

/-- Below its threshold a sound unit's counter moves by 0 (R278). -/
theorem Gpu.advance_zero {g : Gpu} (h : g.ok = true) : g.advance 0 = g :=
  Gpu.advance_below ((Gpu.ok_iff g).mp h).1

theorem exec_nop (s : State) : exec .nop s = .next (s.retire 1 s.cfg.cyc.nop) := rfl

theorem exec_halt (s : State) : exec .halt s = .next ((s.setRun .halted).retire 1 s.cfg.cyc.halt) := rfl

end Sys2Proof.Machine

namespace Sys2Proof.Claims

open Sys2Proof.Machine

/-- The model's treatment of an outcome is the claims'. -/
theorem settle_eq_afterExec (s : State) (o : Result) : s.settle o = afterExec s o := by
  cases o <;> rfl

theorem step_eq_afterExec {s : State} {i : Instr} (hfault : s.fault = none) (hrun : s.run = .running)
    (hfetch : s.fetchInstr = .ok i) : step s = afterExec s (exec i s) :=
  (step_of_fetchInstr_ok hfault hrun hfetch).trans (settle_eq_afterExec s _)

end Sys2Proof.Claims
end

section
/-! The statements of 46_nop_halt_step.md: O2, O3, O5, O8, O1, O4, O30. -/

namespace Sys2Proof.Proofs

open Sys2Proof.Machine Sys2Proof.Claims Sys2Proof.Laws

/-- Settles O2: the bytes at PC decode to the instruction they encode, and its immediate lies behind the one opcode byte. -/
theorem stepRunsTheEncodedInstruction : Obligations.StepRunsTheEncodedInstruction := by
  intro s i hfault hrun hwf hbytes
  obtain ⟨hop, -⟩ := Bool.and_eq_true_iff.mp hwf
  have hfetch : s.fetchInstr = .ok i.op := State.fetchInstr_of_decodeOp hbytes (decodeOp_encodeOp hop _)
  refine ⟨step_eq_afterExec hfault hrun hfetch, fun v himm => ?_, fun w himm => ?_⟩
  · have hbyte := State.holdsBytes_encodeImm hbytes hwf (himm ▸ nofun)
    rw [himm] at hbyte
    exact hbyte.head
  · have hword := State.holdsBytes_encodeImm hbytes hwf (himm ▸ nofun)
    rw [himm] at hword
    rw [← joinBytes_high_low w]
    exact State.memRead2_of_ok hword.head hword.tail.head

/-- Settles O3: the two faults of a fetch, what a latching step does, and the latched state's step and report. -/
theorem faultsLatchAndStop : Obligations.FaultsLatchAndStop :=
  ⟨fun _ hfault hrun =>
    ⟨fun hun => step_of_fetchInstr_error hfault hrun (State.fetchInstr_of_unmapped hun),
      fun hprefix hun => step_of_fetchInstr_error hfault hrun (State.fetchInstr_of_extended_unmapped hprefix hun)⟩,
    fun _ _ _ hstep _ hlatch => step_latches hstep hlatch,
    fun _ _ hfault => ⟨step_of_latched hfault, report_of_latched hfault⟩⟩

/-- Settles O5: a halted machine's step, a fault of the fetch, and the three ways in which an instruction ends. -/
theorem stepRaisesOnlyTwoFaults : Obligations.StepRaisesOnlyTwoFaults := by
  intro s hfault
  cases hrun : s.run with
  | halted => exact ⟨s, step_of_halted hfault hrun, .inl hfault⟩
  | running =>
    cases hfetch : s.fetchInstr with
    | error f =>
      obtain ⟨a, rfl, hregion, -⟩ := State.fetchInstr_error hfetch
      exact ⟨_, step_of_fetchInstr_error hfault hrun hfetch, .inr (.inl ⟨a, rfl, not_not.mpr hregion⟩)⟩
    | ok i =>
      rw [step_eq_afterExec hfault hrun hfetch]
      obtain ⟨t, hexec⟩ | ⟨a, hexec, hregion⟩ | ⟨o, -, hexec⟩ := exec_stops i s <;> rw [hexec]
      · exact ⟨t, rfl, .inl ((exec_next_fault hexec).trans hfault)⟩
      · exact ⟨_, rfl, .inr (.inl ⟨a, rfl, not_not.mpr hregion⟩)⟩
      · exact ⟨_, rfl, .inr (.inr ⟨o, rfl⟩)⟩

/-- Settles O8: the effect of an instruction touches neither clock nor graphics unit, and the accounting is of its table cost. -/
theorem everyInstructionAccountsItsCost : Obligations.EveryInstructionAccountsItsCost := by
  intro i s t hexec
  obtain ⟨u, pc, heff, rfl, -⟩ := exec_next hexec
  constructor
  · rw [State.account_clk, State.setPc_clk, State.setPc_cfg, heff.clk, heff.cfg]
  · rw [State.account_gpu, State.setPc_gpu, heff.gpu]

/-- Settles O1: the two ways in which a fetch decodes. -/
theorem stepRunsTheDecodedInstruction : Obligations.StepRunsTheDecodedInstruction :=
  fun _ hfault hrun =>
    ⟨fun _ hread hop => step_eq_afterExec hfault hrun (State.fetchInstr_of_base hread hop),
      fun _ hprefix hread => step_eq_afterExec hfault hrun (State.fetchInstr_of_extended hprefix hread)⟩

/-- Settles O4: a halted machine's step and report, and a sound graphics unit's advance by 0. -/
theorem haltedStepChangesNothing : Obligations.HaltedStepChangesNothing :=
  fun _ hfault hrun => ⟨step_of_halted hfault hrun, report_of_halted hfault hrun, Gpu.advance_zero⟩

/-- Settles O30: both instructions retire after one byte, HALT with the run state set. -/
theorem nopAdvancesAndHaltHalts : Obligations.NopAdvancesAndHaltHalts := by
  intro s
  rw [exec_nop, exec_halt, retire_eq_done, retire_eq_done]
  exact ⟨rfl, rfl⟩

end Sys2Proof.Proofs
end

section
/-! SUPPORT for the statements of 47_graphics_timing.md: the pulse of each mode, one scanline of exact advances, and the runs of lines
that a frame is made of. -/

namespace Sys2Proof.Machine

/-! ## The pulses (R273, R274) -/

theorem Gpu.pulse_below {g : Gpu} {n : Nat} (h : g.ctr + n < g.mode.threshold) : g.pulse n = none :=
  if_pos h

theorem Gpu.pulse_vramScan {c l n : Nat} (h : 172 ≤ c + n) : Gpu.pulse ⟨.vramScan, c, l⟩ n = some .scanlineDone :=
  if_neg (Nat.not_lt.mpr h)

theorem Gpu.pulse_hblank {c l n : Nat} (h : 204 ≤ c + n) :
    Gpu.pulse ⟨.hblank, c, l⟩ n = if l + 1 = 144 then some .frameComplete else none :=
  if_neg (Nat.not_lt.mpr h)

theorem Gpu.pulse_oamScan (c l n : Nat) : Gpu.pulse ⟨.oamScan, c, l⟩ n = none :=
  ite_self none

theorem Gpu.pulse_vblank (c l n : Nat) : Gpu.pulse ⟨.vblank, c, l⟩ n = none :=
  ite_self none

end Sys2Proof.Machine

namespace Sys2Proof.Claims

open Sys2Proof.Machine

/-- A mode's rule as its two cases: at the threshold and below it. -/
theorem eq_ite_of_le_of_lt {α : Type} {a b : Nat} {x y z : α} (hge : a ≤ b → x = y) (hlt : b < a → x = z) :
    x = if a ≤ b then y else z := by
  split_ifs with h
  · exact hge h
  · exact hlt (Nat.not_le.mp h)

/-! ## Lines of exact length (R279) -/

theorem lineOfAdvances_oamScan (l : Nat) :
    lineOfAdvances ⟨.oamScan, 0, l⟩ = ⟨if l + 1 = 144 then .vblank else .oamScan, 0, l + 1⟩ := by
  have hoam : Gpu.advance ⟨.oamScan, 0, l⟩ 80 = ⟨.vramScan, 0, l⟩ := Gpu.advance_oamScan rfl (Nat.le_refl 80)
  have hvram : Gpu.advance ⟨.vramScan, 0, l⟩ 172 = ⟨.hblank, 0, l⟩ := Gpu.advance_vramScan rfl (Nat.le_refl 172)
  rw [lineOfAdvances, hoam, hvram]
  exact Gpu.advance_hblank rfl (Nat.le_refl 204)

/-- Before VBlank each exact line adds one to the line number. -/
theorem iterate_lineOfAdvances (l : Nat) {n : Nat} (h : l + n < 144) :
    lineOfAdvances^[n] ⟨.oamScan, 0, l⟩ = ⟨.oamScan, 0, l + n⟩ := by
  induction n with
  | zero => rfl
  | succ n ih =>
    rw [Function.iterate_succ_apply', ih (by omega), lineOfAdvances_oamScan, Nat.add_assoc, if_neg h.ne]

/-- The exact line after line 143 enters VBlank, from whichever line the run began. -/
theorem iterate_lineOfAdvances_enters_vblank (l : Nat) {n : Nat} (h : l + n = 143) :
    lineOfAdvances^[n + 1] ⟨.oamScan, 0, l⟩ = ⟨.vblank, 0, 144⟩ := by
  rw [Function.iterate_succ_apply', iterate_lineOfAdvances l (by omega), h, lineOfAdvances_oamScan, if_pos rfl]

/-- Up to line 153 each exact line of VBlank adds one to the line number (R275). -/
theorem iterate_advance_vblank {n : Nat} (h : n < 10) :
    (fun g : Gpu => g.advance 456)^[n] ⟨.vblank, 0, 144⟩ = ⟨.vblank, 0, 144 + n⟩ := by
  induction n with
  | zero => rfl
  | succ n ih =>
    have hline : ¬ 153 < 144 + n + 1 := by omega
    rw [Function.iterate_succ_apply', ih (by omega), Gpu.advance_vblank rfl (Nat.le_refl 456), if_neg hline, Nat.add_assoc]

end Sys2Proof.Claims
end

section
/-! The statements of 47_graphics_timing.md: O24, O25, O23. -/

namespace Sys2Proof.Proofs

open Sys2Proof.Machine Sys2Proof.Claims

/-- Settles O24: an advance ends in a line that its mode admits, and by 0 it stays below the threshold. -/
theorem advanceKeepsGraphicsInvariants : Obligations.AdvanceKeepsGraphicsInvariants :=
  fun _ n hok => ⟨Gpu.advance_ok n hok, Gpu.advance_zero hok⟩

/-- Settles O25: the runs of exact lines, of which the tenth in VBlank wraps and the first from reset ends at line 1. -/
theorem exactFrameTiming : Obligations.ExactFrameTiming := by
  refine ⟨fun n hn => ?_, iterate_lineOfAdvances_enters_vblank 0 rfl, fun n hn => iterate_advance_vblank hn, ?_, ?_⟩
  · rw [iterate_lineOfAdvances 0 (by omega), Nat.zero_add]
  · rw [Function.iterate_succ_apply', iterate_advance_vblank (by decide), Gpu.advance_vblank rfl (by decide), if_pos (by decide)]
  · have hreset : State.reset.gpu.advance 204 = ⟨.oamScan, 0, 1⟩ := Gpu.advance_hblank rfl (by decide)
    rw [hreset]
    exact iterate_lineOfAdvances_enters_vblank 1 rfl

/-- Settles O23: below the threshold only the counter moves and no pulse fires; at it the mode's own rule applies. -/
theorem advanceFollowsTheModeRules : Obligations.AdvanceFollowsTheModeRules := by
  intro c l n
  refine ⟨?oamScan, ?vramScan, ?scanlinePulse, ?hblank, ?framePulse, ?vblank, Gpu.pulse_oamScan c l n, Gpu.pulse_vblank c l n⟩
  case oamScan => exact eq_ite_of_le_of_lt (fun hge => Gpu.advance_oamScan rfl hge) fun hlt => Gpu.advance_below hlt
  case vramScan => exact eq_ite_of_le_of_lt (fun hge => Gpu.advance_vramScan rfl hge) fun hlt => Gpu.advance_below hlt
  case scanlinePulse => exact eq_ite_of_le_of_lt Gpu.pulse_vramScan fun hlt => Gpu.pulse_below hlt
  case hblank =>
    rw [← apply_ite (Gpu.mk · 0 (l + 1))]
    exact eq_ite_of_le_of_lt (fun hge => Gpu.advance_hblank rfl hge) fun hlt => Gpu.advance_below hlt
  case framePulse =>
    rw [ite_and]
    exact eq_ite_of_le_of_lt Gpu.pulse_hblank fun hlt => Gpu.pulse_below hlt
  case vblank => exact eq_ite_of_le_of_lt (fun hge => Gpu.advance_vblank rfl hge) fun hlt => Gpu.advance_below hlt

end Sys2Proof.Proofs
end

section
/-! SUPPORT for the statements of 70_reset_and_hazards.md: blanking the timing parts commutes with every operation, and the arrays that
construction builds. -/

namespace Sys2Proof.Claims

open Sys2Proof.Machine

variable (s : State)

/-! ## Blanking the timing parts leaves every other element alone -/

@[simp] theorem untimed_flags : (untimed s).flags = s.flags := rfl
@[simp] theorem untimed_pc : (untimed s).pc = s.pc := rfl
@[simp] theorem untimed_sp : (untimed s).sp = s.sp := rfl
@[simp] theorem untimed_untimed : untimed (untimed s) = untimed s := rfl

/-! ## It commutes with the updates, and the accounting of `retire` is blanked by it -/

@[simp] theorem untimed_setReg (x : Reg8) (v : Byte) : untimed (s.setReg x v) = (untimed s).setReg x v := rfl
@[simp] theorem untimed_setPair (p : Pair) (v : Word) : untimed (s.setPair p v) = (untimed s).setPair p v := rfl
@[simp] theorem untimed_setFlags (f : Flags) : untimed (s.setFlags f) = (untimed s).setFlags f := rfl
@[simp] theorem untimed_setAf (v : Word) : untimed (s.setAf v) = (untimed s).setAf v := rfl

@[simp] theorem untimed_setReg16 (x : Reg16) (v : Word) : untimed (s.setReg16 x v) = (untimed s).setReg16 x v := by
  cases x <;> rfl

@[simp] theorem untimed_aluWrite (op : AluOp) (r : ByteResult) : untimed (s.aluWrite op r) = (untimed s).aluWrite op r := by
  cases op <;> rfl

@[simp] theorem untimed_postEffect (m : MemOperand) (a : Word) : untimed (s.postEffect m a) = (untimed s).postEffect m a := by
  cases m <;> rfl

@[simp] theorem untimed_storeAt (rg : Region) (a : Word) (v : Byte) : untimed (s.storeAt rg a v) = (untimed s).storeAt rg a v := by
  cases rg <;> rfl

@[simp] theorem untimed_retire (len : Word) (n : Nat) : untimed (s.retire len n) = (untimed s).setPc (s.pc + len) := rfl

/-! ## It is invisible to the reads -/

@[simp] theorem untimed_reg (x : Reg8) : (untimed s).reg x = s.reg x := rfl
@[simp] theorem untimed_pair (p : Pair) : (untimed s).pair p = s.pair p := rfl
@[simp] theorem untimed_reg16 (x : Reg16) : (untimed s).reg16 x = s.reg16 x := by cases x <;> rfl
@[simp] theorem untimed_region (a : Word) : (untimed s).region a = s.region a := rfl
@[simp] theorem untimed_memRead2 (a : Word) : (untimed s).memRead2 a = s.memRead2 a := rfl
@[simp] theorem untimed_readSrc8 (x : Src8) : (untimed s).readSrc8 x = s.readSrc8 x := by cases x <;> rfl
@[simp] theorem untimed_readLoc8 (x : Loc8) : (untimed s).readLoc8 x = s.readLoc8 x := by cases x <;> rfl
@[simp] theorem untimed_effAddr (m : MemOperand) : (untimed s).effAddr m = s.effAddr m := by cases m <;> rfl

/-! ## It commutes with the accesses that answer a state -/

theorem memWrite_untimed (a : Word) (v : Byte) : (untimed s).memWrite a v = (s.memWrite a v).map untimed := by
  simp only [State.memWrite, untimed_region]
  cases s.region a with
  | none => rfl
  | some rg => by_cases hst : storesWrites rg = true <;> simp [hst, Except.map]

theorem memWrite2_untimed (a v : Word) : (untimed s).memWrite2 a v = (s.memWrite2 a v).map untimed := by
  simp only [State.memWrite2, memWrite_untimed]
  cases s.memWrite a (lowByte v) with
  | error f => rfl
  | ok t => exact memWrite_untimed t _ _

theorem push16_untimed (v : Word) : (untimed s).push16 v = (s.push16 v).map untimed := by
  simp only [State.push16, memWrite_untimed, untimed_sp]
  cases s.memWrite (s.sp - 1) (highByte v) with
  | error f => rfl
  | ok t =>
    simp only [Except.map, memWrite_untimed]
    cases t.memWrite (s.sp - 2) (lowByte v) <;> rfl

theorem pop16_untimed : (untimed s).pop16 = s.pop16.map (Prod.map id untimed) := by
  simp only [State.pop16, untimed_memRead2, untimed_sp]
  cases s.memRead2 s.sp <;> rfl

theorem writeLoc8_untimed (x : Loc8) (v : Byte) : (untimed s).writeLoc8 x v = (s.writeLoc8 x v).map untimed := by
  cases x with
  | reg r => rfl
  | indHL => exact memWrite_untimed s _ v

/-! ## Outcomes that agree but for timing (R335) -/

/-- An outcome with the timing parts of its next state blanked. -/
def untimedResult : Result → Result
  | .next t => .next (untimed t)
  | .fault f => .fault f
  | .refused r => .refused r

theorem sameButTiming_iff {o o' : Result} : sameButTiming o o' ↔ untimedResult o = untimedResult o' := by
  cases o <;> cases o' <;> simp [sameButTiming, untimedResult]

/-- Everything that two outcomes can be that agree but for timing. -/
theorem sameButTiming_cases {o o' : Result} (h : sameButTiming o o') :
    (∃ t t', o = .next t ∧ o' = .next t' ∧ untimed t = untimed t') ∨ (∃ f, o = .fault f ∧ o' = .fault f) ∨
      (∃ r, o = .refused r ∧ o' = .refused r) := by
  cases o <;> cases o' <;> simp_all [sameButTiming]

/-- One more access: it ends alike on either side, in values that `g` relates, from which the rest ends alike. -/
theorem untimedResult_onOk_map {α : Type} {x x' : Except Fault α} {k k' : α → Result} (g : α → α) (hx : x' = x.map g)
    (hk : ∀ v, untimedResult (k' (g v)) = untimedResult (k v)) : untimedResult (onOk x' k') = untimedResult (onOk x k) := by
  subst hx
  cases x with
  | error f => rfl
  | ok v => exact hk v

/-- One more read: it gives the same on either side. -/
theorem untimedResult_onOk {α : Type} {x x' : Except Fault α} {k k' : α → Result} (hx : x' = x)
    (hk : ∀ v, untimedResult (k' v) = untimedResult (k v)) : untimedResult (onOk x' k') = untimedResult (onOk x k) :=
  untimedResult_onOk_map id (hx.trans (by cases x <;> rfl)) hk

/-- A conditional transfer: the flags decide alike on either side. -/
theorem untimedResult_ite {c : Prop} [Decidable c] {a a' b b' : Result} (ha : untimedResult a' = untimedResult a)
    (hb : untimedResult b' = untimedResult b) :
    untimedResult (if c then a' else b') = untimedResult (if c then a else b) := by
  split_ifs
  · exact ha
  · exact hb

theorem untimedResult_next {t t' : State} (h : untimed t' = untimed t) :
    untimedResult (.next t') = untimedResult (.next t) :=
  congrArg Host.Outcome.next h

/-! ## Every operation and every step (R335) -/

theorem untimedResult_jumpAbs : untimedResult (jumpAbs (untimed s)) = untimedResult (jumpAbs s) :=
  untimedResult_onOk rfl fun _ => rfl

theorem untimedResult_jumpRel : untimedResult (jumpRel (untimed s)) = untimedResult (jumpRel s) :=
  untimedResult_onOk rfl fun _ => rfl

theorem untimedResult_callAbs : untimedResult (callAbs (untimed s)) = untimedResult (callAbs s) :=
  untimedResult_onOk rfl fun _ => untimedResult_onOk_map untimed (push16_untimed s _) fun _ => rfl

theorem untimedResult_returnTo (n n' : Nat) : untimedResult (returnTo n' (untimed s)) = untimedResult (returnTo n s) :=
  untimedResult_onOk_map _ (pop16_untimed s) fun _ => rfl

theorem untimedResult_pushWord (v : Word) : untimedResult (pushWord v (untimed s)) = untimedResult (pushWord v s) :=
  untimedResult_onOk_map untimed (push16_untimed s v) fun _ => rfl

theorem untimedResult_popWord {write : State → Word → State} (hwrite : ∀ t v, untimed (write t v) = write (untimed t) v) :
    untimedResult (popWord write (untimed s)) = untimedResult (popWord write s) :=
  untimedResult_onOk_map _ (pop16_untimed s) fun (v, t) => untimedResult_next (by rw [← hwrite]; rfl)

/-- What an operation does, its timing aside, is the same from the state with its timing parts blanked. -/
theorem untimedResult_run (g : Form) : untimedResult (g.run (untimed s)) = untimedResult (g.run s) := by
  cases g with
  | alu op x => exact untimedResult_onOk (untimed_readSrc8 s x) fun _ => untimedResult_next (by simp)
  | inc8 x | dec8 x | rot k x =>
    exact untimedResult_onOk (untimed_readLoc8 s x) fun _ =>
      untimedResult_onOk_map untimed (writeLoc8_untimed s x _) fun _ => rfl
  | inc16 x | dec16 x | addHl x => exact untimedResult_next (by simp)
  | loadReg rd rs => rfl
  | loadImm rd => exact untimedResult_onOk rfl fun _ => rfl
  | loadMem rd m =>
    exact untimedResult_onOk (untimed_effAddr s m) fun _ => untimedResult_onOk rfl fun _ => untimedResult_next (by simp)
  | storeMem m rs =>
    exact untimedResult_onOk (untimed_effAddr s m) fun _ =>
      untimedResult_onOk_map untimed (memWrite_untimed s _ _) fun _ => untimedResult_next (by simp)
  | storeImm => exact untimedResult_onOk rfl fun _ => untimedResult_onOk_map untimed (memWrite_untimed s _ _) fun _ => rfl
  | loadWordImm x => exact untimedResult_onOk rfl fun _ => untimedResult_next (by simp)
  | storeSp => exact untimedResult_onOk rfl fun _ => untimedResult_onOk_map untimed (memWrite2_untimed s _ _) fun _ => rfl
  | push p => exact untimedResult_pushWord s (s.pair p)
  | pushAf => exact untimedResult_pushWord s s.af
  | pop p => exact untimedResult_popWord s fun t => untimed_setPair t p
  | popAf => exact untimedResult_popWord s untimed_setAf
  | jumpAbs => exact untimedResult_jumpAbs s
  | jumpAbsIf cc => exact untimedResult_ite (untimedResult_jumpAbs s) rfl
  | jumpRel => exact untimedResult_jumpRel s
  | jumpRelIf cc => exact untimedResult_ite (untimedResult_jumpRel s) rfl
  | callAbs => exact untimedResult_callAbs s
  | callAbsIf cc => exact untimedResult_ite (untimedResult_callAbs s) rfl
  | ret => exact untimedResult_returnTo s _ _
  | retIf cc => exact untimedResult_ite (untimedResult_returnTo s _ _) rfl
  | bit b x => exact untimedResult_onOk (untimed_readLoc8 s x) fun _ => rfl
  | loadSpHl | jumpHl | rotAcc dir variant | nop | halt | unknown o => rfl

theorem untimedResult_exec (i : Instr) : untimedResult (exec i (untimed s)) = untimedResult (exec i s) := by
  rw [exec_eq_run, exec_eq_run, untimedResult_run]

/-- Taking a fault sets the latch, which is no timing part. -/
theorem untimedResult_settle (o : Result) : untimedResult (s.settle o) = (untimed s).settle (untimedResult o) := by
  cases o <;> rfl

/-- What a step does, its timing aside, is the same from the state with its timing parts blanked. -/
theorem untimedResult_step : untimedResult (step (untimed s)) = untimedResult (step s) := by
  cases hfault : s.fault with
  | some f => rw [step_of_latched hfault, step_of_latched (s := untimed s) hfault]
  | none =>
    cases hrun : s.run with
    | halted => rw [step_of_halted hfault hrun, step_of_halted (s := untimed s) hfault hrun]; rfl
    | running =>
      cases hfetch : s.fetchInstr with
      | error f =>
        rw [step_of_fetchInstr_error hfault hrun hfetch, step_of_fetchInstr_error (s := untimed s) hfault hrun hfetch]
        rfl
      | ok i =>
        rw [step_of_fetchInstr_ok hfault hrun hfetch, step_of_fetchInstr_ok (s := untimed s) hfault hrun hfetch,
          untimedResult_settle, untimedResult_settle, untimedResult_exec, untimed_untimed]

theorem step_sameButTiming {s s' : State} (h : untimed s = untimed s') : sameButTiming (step s) (step s') := by
  rw [sameButTiming_iff, ← untimedResult_step s, h, untimedResult_step s']

end Sys2Proof.Claims

namespace Sys2Proof.Machine

/-! ## A run, by its first step -/

section
variable {s : State} {k : Nat}

theorem run_succ_of_next {t : State} (h : step s = .next t) : core.run (k + 1) s = core.run k t := by
  have hcore : core.step s = .next t := h
  simp only [Host.Core.run, hcore]

theorem run_succ_of_fault {f : Fault} (h : step s = .fault f) : core.run (k + 1) s = .fault f := by
  have hcore : core.step s = .fault f := h
  simp only [Host.Core.run, hcore]

theorem run_succ_of_refused {r : Refusal} (h : step s = .refused r) : core.run (k + 1) s = .refused r := by
  have hcore : core.step s = .refused r := h
  simp only [Host.Core.run, hcore]

end

/-! ## Construction (R320, R321) -/

theorem construct_of_bootImage_length_ne {k : Construction} (h : k.bootImage.length ≠ bootSize) :
    construct k = .fault (.bufferSize .boot) :=
  if_pos h

theorem construct_of_romImage_length_ne {k : Construction} (hboot : k.bootImage.length = bootSize)
    (hrom : k.romImage.length ≠ spanSize k.cfg.regions.rom0) : construct k = .fault (.bufferSize .rom) := by
  rw [construct, if_neg (not_not.mpr hboot), if_pos hrom]

/-- A list of bytes that fits its region gives a sound array. -/
theorem arrayOk_ofBytes {size : Nat} {vs : List Byte} (h : vs.length ≤ size) : arrayOk size (Memory.ofBytes 0 vs) = true :=
  Bool.and_eq_true_iff.mpr ⟨Memory.ofBytes_wf vs, Memory.ofBytes_within 0 vs (by omega)⟩

/-- The images fit by the size check, the RAM contents because they are cut to their region's size. -/
theorem Construction.state_arraysOk {k : Construction} (hboot : k.bootImage.length = bootSize)
    (hrom : k.romImage.length = spanSize k.cfg.regions.rom0) : k.state.arraysOk = true := by
  have hram (size : Nat) (vs : List Byte) : arrayOk size (Memory.ofBytes 0 (vs.take size)) = true :=
    arrayOk_ofBytes (List.length_take_le size vs)
  simp only [State.arraysOk, Construction.state, arrayOk_ofBytes hboot.le, arrayOk_ofBytes hrom.le, hram, Bool.and_self]

/-- The byte at a place is the list's, and past its end 0x00. -/
theorem Memory.get_ofBytes_zero (vs : List Byte) (j : Nat) :
    Memory.get (Memory.ofBytes 0 vs) j = (vs[j]?).getD unlistedByte := by
  simpa using Memory.get_ofBytes 0 j vs

theorem Memory.get_ofBytes_of_getElem? {vs : List Byte} {j : Nat} {v : Byte} (h : vs[j]? = some v) :
    Memory.get (Memory.ofBytes 0 vs) j = v := by
  rw [Memory.get_ofBytes_zero, h, Option.getD_some]

/-- Cutting the list to the region's size is not seen inside the region. -/
theorem Memory.get_ofBytes_take (vs : List Byte) {size j : Nat} (h : j < size) :
    Memory.get (Memory.ofBytes 0 (vs.take size)) j = (vs[j]?).getD unlistedByte := by
  rw [Memory.get_ofBytes_zero, List.getElem?_take_of_lt h]

theorem Construction.state_of_snapshot {k : Construction} {p : Snapshot} (h : k.snapshot = some p) :
    k.state.regs = ⟨p.a, p.b, p.c, p.d, p.e, p.h, p.l⟩ ∧ k.state.flags = Flags.ofByte p.f ∧ k.state.pc = p.pc ∧
      k.state.sp = p.sp := by
  simp only [Construction.state, h, Option.getD_some, and_self]

/-- An absent snapshot is the default one (R7, D6). -/
theorem Construction.state_of_no_snapshot {k : Construction} (h : k.snapshot = none) :
    k.state.regs = ⟨0, 0, 0, 0, 0, 0, 0⟩ ∧ k.state.flags = Flags.ofByte 0 ∧ k.state.pc = 0 ∧ k.state.sp = 0 := by
  simp only [Construction.state, h, Option.getD_none]
  exact ⟨rfl, rfl, rfl, rfl⟩

end Sys2Proof.Machine
end

section
/-! The statements of 70_reset_and_hazards.md: O9, O12, O14. -/

namespace Sys2Proof.Proofs

open Sys2Proof.Machine Sys2Proof.Claims

/-- Settles O9, by induction on the number of steps: states that agree but for timing step to outcomes that do, and from agreeing next
states the rest of the run does too. -/
theorem timingReachesNothingElse : Obligations.TimingReachesNothingElse := by
  intro k
  induction k with
  | zero => exact fun _ _ h => h
  | succ k ih =>
    intro s s' h
    obtain ⟨t, t', hs, hs', hnext⟩ | ⟨f, hs, hs'⟩ | ⟨r, hs, hs'⟩ := sameButTiming_cases (step_sameButTiming h)
    · rw [run_succ_of_next hs, run_succ_of_next hs']
      exact ih t t' hnext
    · simp only [run_succ_of_fault hs, run_succ_of_fault hs', sameButTiming]
    · simp only [run_succ_of_refused hs, run_succ_of_refused hs', sameButTiming]

/-- Settles O12: sound arrays by the size check, HBlank at line 0 and a zero cycle counter by construction. -/
theorem constructionHasInvariant : Obligations.ConstructionHasInvariant := by
  intro k t hk
  obtain ⟨hboot, hrom, rfl⟩ := construct_eq_next.mp hk
  exact ⟨Construction.state_arraysOk hboot hrom, (Gpu.ok_zero_iff .hblank 0).mpr (by decide), Nat.two_pow_pos _⟩

/-- Settles O14: the machine is `Construction.state`, with the snapshot's or the default's values and the arrays of the given bytes; an
image of the wrong length fails its check. -/
theorem constructionTakesItsInputs : Obligations.ConstructionTakesItsInputs := by
  intro k
  refine ⟨fun hboot hrom => ⟨k.state, construct_eq_next.mpr ⟨hboot, hrom, rfl⟩, ?snapshot, ?noSnapshot, rfl, rfl, rfl, rfl, rfl,
    rfl, ?images⟩, construct_of_bootImage_length_ne, construct_of_romImage_length_ne⟩
  case snapshot =>
    intro p hp
    obtain ⟨hregs, hflags, hpc, hsp⟩ := Construction.state_of_snapshot hp
    exact ⟨hregs, by rw [hflags, Flags.toByte_ofByte], hpc, hsp⟩
  case noSnapshot =>
    intro hp
    obtain ⟨hregs, hflags, hpc, hsp⟩ := Construction.state_of_no_snapshot hp
    exact ⟨hregs, by rw [hflags, Flags.toByte_ofByte]; rfl, hpc, hsp⟩
  case images =>
    exact ⟨fun _ _ => Memory.get_ofBytes_of_getElem?, fun _ _ => Memory.get_ofBytes_of_getElem?,
      fun _ => Memory.get_ofBytes_take _, fun _ => Memory.get_ofBytes_take _, fun _ => Memory.get_ofBytes_take _⟩

end Sys2Proof.Proofs
end
